-- ==== Sys2Proof/Word.lean ====
section
/-! DEFINITION. The byte, and the plainest arithmetic on machine numbers (`00_scope.md` rule R6). -/

namespace Sys2Proof

/-- A byte: 8 bits, an unsigned number 0 to 255 unless a rule says otherwise (R6). -/
abbrev Byte := BitVec 8

/-- `zext_N(v)` of R6: zero extension to `n` bits. -/
abbrev zext (n : Nat) {w : Nat} (v : BitVec w) : BitVec n := v.setWidth n

/-- `sext_N(v)` of R6: extension to `n` bits by copying the top bit. -/
abbrev sext (n : Nat) {w : Nat} (v : BitVec w) : BitVec n := v.signExtend n

end Sys2Proof
end

