-- ==== Sys2Proof/Config.lean ====
section
/-! DEFINITION. The parameters of the block (`00_scope.md` rule R5), each a named constant, and the
values the spec leaves open, as constants without a body. No step names a parameter's number: it
names the constant, and a width is written `BitVec (delta% Config.w…)`, which is the type at the
constant's value, so that the decision procedures see a plain number. -/

namespace Sys2Proof.Config

/-- BUF_CAP: capacity of RawBuffer in bytes. -/
@[simp] abbrev bufCap : Nat := 255

/-- REQ_LEN: bytes requested from the transport, and the count below which a delivery is short. -/
@[simp] abbrev reqLen : Nat := 255

/-- ID_BYTE: first byte of a frame. -/
@[simp] abbrev idByte : Byte := 0x7D#8

/-- FMT_BYTE: second byte of a frame, PD5. -/
@[simp] abbrev fmtByte : Byte := 0x01#8

/-- The frame header of R81 as one little-endian number: ID_BYTE low, FMT_BYTE high, 0x017D. -/
@[simp] abbrev headerPair : BitVec 16 := fmtByte ++ idByte

/-- FRAME_LEN: total length of a PD5 frame in bytes, checksum included. -/
@[simp] abbrev frameLen : Nat := 88

/-- CK_OFF: frame offset of the low byte of the transmitted checksum. -/
@[simp] abbrev ckOff : Nat := 86

/-- SUM_LEN: number of frame bytes summed, offsets 0 to CK_OFF - 1. -/
@[simp] abbrev sumLen : Nat := 86

/-- LEN_OFF: frame offset of the low byte of the declared length. -/
@[simp] abbrev lenOff : Nat := 2

/-- LEN_ADJ: the document's "declared_length + 3"; no rule uses it (`90_conflicts.md` C2, D2). -/
@[simp] abbrev lenAdj : Nat := 3

/-- MAX_OFF: the largest offset at which a whole frame fits in a full buffer. -/
@[simp] abbrev maxOff : Nat := 167

/-- W_NUMFORMAT: width of NUMFORMAT (D5). -/
@[simp] abbrev wNumformat : Nat := 8

/-- NUMFORMAT_PD5: the only accepted value of `numFormat`. -/
@[simp] abbrev numformatPd5 : BitVec (delta% wNumformat) := 5#_

/-- NFIELDS: number of field-extract stages (`90_conflicts.md` C1: 41, not 42). -/
@[simp] abbrev nFields : Nat := 41

/-- W_SUM: width of the checksum accumulator. -/
@[simp] abbrev wSum : Nat := 16

/-- W_STATUS: width of STATUS (D27). -/
@[simp] abbrev wStatus : Nat := 3

/-- W_FSEL: width of the field selector (D11). -/
@[simp] abbrev wFsel : Nat := 6

/-- W_FDATA: width of the field read port (D10). -/
@[simp] abbrev wFdata : Nat := 32

/-- W_PTR: width of the buffer pointer (D1). -/
@[simp] abbrev wPtr : Nat := 8

/-- The width of the bounds sum OFF + FRAME_LEN, 9 bits (R5 at W_PTR; D8, R245). -/
@[simp] abbrev wBounds : Nat := 9

/-- HOST_BASE: OPEN in the spec (R5, R61); no rule depends on it, so it has no body. -/
opaque hostBase : Nat

/-- The value NUMFORMAT holds after the `n`-th RESET of a run: unspecified in the spec (R39, R240),
a free value (log entry 3). -/
opaque freeNumformat : Nat → BitVec (delta% wNumformat)

end Sys2Proof.Config
end

