-- ==== Sys2Proof/Syntax.lean ====
section
/-! DEFINITION. The operations of the block as data: one constructor of `Instr` per row of
`spec/opcode_table.json` (`30_encoding.md` rule R86), and what selects them: the sequencer states,
the 41 fields, and the signal in which the decoder finds an operation. -/

namespace Sys2Proof

/-- ST, the sequencer state, which plays the part of a program counter (R24). -/
inductive SeqState where
  /-- IDLE: after reset; no cycle has run. -/
  | idle
  /-- WAITRX: a transport request is outstanding. -/
  | waitrx
  /-- HUNT: scanning for 0x7D. -/
  | hunt
  /-- ID: the byte before BUF[PTR] was 0x7D. -/
  | ident
  /-- CAPT: copying frame bytes 2 to 87. -/
  | capt
  /-- CHECK: all 88 bytes captured. -/
  | check
  /-- DECODE: checksum equal; about to write the ensemble. -/
  | decode
  /-- DONE: the cycle is over. -/
  | done
  deriving DecidableEq, Repr

/-- The 41 fields of the PD5 frame, in the row order of the document's table (R32, R80). -/
inductive Field where
  /-- Field 0, u8 at frame offset 0 (R145). -/
  | id
  /-- Field 1, u8 at frame offset 1 (R146). -/
  | format
  /-- Field 2, u16 at frame offset 2 (R147). -/
  | byteCount
  /-- Field 3, u8 at frame offset 4 (R148). -/
  | systemConfig
  /-- Field 4, s16 at frame offset 5 (R149). -/
  | velBottomX
  /-- Field 5, s16 at frame offset 7 (R150). -/
  | velBottomY
  /-- Field 6, s16 at frame offset 9 (R151). -/
  | velBottomZ
  /-- Field 7, s16 at frame offset 11 (R152). -/
  | velBottomE
  /-- Field 8, u16 at frame offset 13 (R153). -/
  | rangeBeam1
  /-- Field 9, u16 at frame offset 15 (R154). -/
  | rangeBeam2
  /-- Field 10, u16 at frame offset 17 (R155). -/
  | rangeBeam3
  /-- Field 11, u16 at frame offset 19 (R156). -/
  | rangeBeam4
  /-- Field 12, u8 at frame offset 21 (R157). -/
  | bottomStatus
  /-- Field 13, s16 at frame offset 22 (R158). -/
  | velWaterMass1
  /-- Field 14, s16 at frame offset 24 (R159). -/
  | velWaterMass2
  /-- Field 15, s16 at frame offset 26 (R160). -/
  | velWaterMass3
  /-- Field 16, s16 at frame offset 28 (R161). -/
  | velWaterMass4
  /-- Field 17, u16 at frame offset 30 (R162). -/
  | refLayerStart
  /-- Field 18, u16 at frame offset 32 (R163). -/
  | refLayerEnd
  /-- Field 19, u8 at frame offset 34 (R164). -/
  | refLayerStatus
  /-- Field 20, u8 at frame offset 35 (R165). -/
  | tofpHour
  /-- Field 21, u8 at frame offset 36 (R166). -/
  | tofpMin
  /-- Field 22, u8 at frame offset 37 (R167). -/
  | tofpSec
  /-- Field 23, u8 at frame offset 38 (R168). -/
  | tofpErr
  /-- Field 24, u16 at frame offset 39 (R169). -/
  | bitResult
  /-- Field 25, u16 at frame offset 41 (R170). -/
  | speedOfSound
  /-- Field 26, s16 at frame offset 43 (R171). -/
  | temperature
  /-- Field 27, u8 at frame offset 45 (R172). -/
  | salinity
  /-- Field 28, u16 at frame offset 46 (R173). -/
  | depth
  /-- Field 29, s16 at frame offset 48 (R174). -/
  | pitch
  /-- Field 30, s16 at frame offset 50 (R175). -/
  | roll
  /-- Field 31, s16 at frame offset 52 (R176). -/
  | heading
  /-- Field 32, u32 at frame offset 54 (R177). -/
  | dmgBottomE
  /-- Field 33, u32 at frame offset 58 (R178). -/
  | dmgBottomN
  /-- Field 34, u32 at frame offset 62 (R179). -/
  | dmgBottomUp
  /-- Field 35, u32 at frame offset 66 (R180). -/
  | dmgBottomErr
  /-- Field 36, u32 at frame offset 70 (R181). -/
  | dmgWaterE
  /-- Field 37, u32 at frame offset 74 (R182). -/
  | dmgWaterN
  /-- Field 38, u32 at frame offset 78 (R183). -/
  | dmgWaterUp
  /-- Field 39, u32 at frame offset 82 (R184). -/
  | dmgWaterErr
  /-- Field 40, u16 at frame offset 86 (R185). -/
  | checksum
  deriving DecidableEq, Repr

/-- The operations, one constructor per row of `spec/opcode_table.json` (R86). -/
inductive Instr where
  /-- NOP (R196). -/
  | nop
  /-- START nf (R190). -/
  | start (nf : BitVec (delta% Config.wNumformat))
  /-- RDSTAT (R195). -/
  | rdstat
  /-- RDFLD k (R186); selectors 41 to 63 are part of the operation (R187). -/
  | rdfld (k : BitVec (delta% Config.wFsel))
  /-- DELIVER n: bytes (R193); n is the number of bytes. -/
  | deliver (bytes : List Byte)
  /-- HUNT.END (R105). -/
  | huntEnd
  /-- HUNT.ID (R107). -/
  | huntId
  /-- HUNT.SKIP (R106). -/
  | huntSkip
  /-- ID.END (R108). -/
  | idEnd
  /-- ID.MATCH (R109). -/
  | idMatch
  /-- ID.AGAIN (R110). -/
  | idAgain
  /-- ID.MISS (R111). -/
  | idMiss
  /-- CAPT.LENLO (R122). -/
  | captLenlo
  /-- CAPT.LENHI (R123). -/
  | captLenhi
  /-- CAPT.BODY (R124). -/
  | captBody
  /-- CAPT.CKLO (R125). -/
  | captCklo
  /-- CAPT.CKHI (R126). -/
  | captCkhi
  /-- CHECK (R127). -/
  | check
  /-- DECODE (R144). -/
  | decode
  /-- FX.id (k = 0, R145). -/
  | fxId
  /-- FX.format (k = 1, R146). -/
  | fxFormat
  /-- FX.byteCount (k = 2, R147). -/
  | fxByteCount
  /-- FX.systemConfig (k = 3, R148). -/
  | fxSystemConfig
  /-- FX.velBottomX (k = 4, R149). -/
  | fxVelBottomX
  /-- FX.velBottomY (k = 5, R150). -/
  | fxVelBottomY
  /-- FX.velBottomZ (k = 6, R151). -/
  | fxVelBottomZ
  /-- FX.velBottomE (k = 7, R152). -/
  | fxVelBottomE
  /-- FX.rangeBeam1 (k = 8, R153). -/
  | fxRangeBeam1
  /-- FX.rangeBeam2 (k = 9, R154). -/
  | fxRangeBeam2
  /-- FX.rangeBeam3 (k = 10, R155). -/
  | fxRangeBeam3
  /-- FX.rangeBeam4 (k = 11, R156). -/
  | fxRangeBeam4
  /-- FX.bottomStatus (k = 12, R157). -/
  | fxBottomStatus
  /-- FX.velWaterMass1 (k = 13, R158). -/
  | fxVelWaterMass1
  /-- FX.velWaterMass2 (k = 14, R159). -/
  | fxVelWaterMass2
  /-- FX.velWaterMass3 (k = 15, R160). -/
  | fxVelWaterMass3
  /-- FX.velWaterMass4 (k = 16, R161). -/
  | fxVelWaterMass4
  /-- FX.refLayerStart (k = 17, R162). -/
  | fxRefLayerStart
  /-- FX.refLayerEnd (k = 18, R163). -/
  | fxRefLayerEnd
  /-- FX.refLayerStatus (k = 19, R164). -/
  | fxRefLayerStatus
  /-- FX.tofpHour (k = 20, R165). -/
  | fxTofpHour
  /-- FX.tofpMin (k = 21, R166). -/
  | fxTofpMin
  /-- FX.tofpSec (k = 22, R167). -/
  | fxTofpSec
  /-- FX.tofpErr (k = 23, R168). -/
  | fxTofpErr
  /-- FX.bitResult (k = 24, R169). -/
  | fxBitResult
  /-- FX.speedOfSound (k = 25, R170). -/
  | fxSpeedOfSound
  /-- FX.temperature (k = 26, R171). -/
  | fxTemperature
  /-- FX.salinity (k = 27, R172). -/
  | fxSalinity
  /-- FX.depth (k = 28, R173). -/
  | fxDepth
  /-- FX.pitch (k = 29, R174). -/
  | fxPitch
  /-- FX.roll (k = 30, R175). -/
  | fxRoll
  /-- FX.heading (k = 31, R176). -/
  | fxHeading
  /-- FX.dmgBottomE (k = 32, R177). -/
  | fxDmgBottomE
  /-- FX.dmgBottomN (k = 33, R178). -/
  | fxDmgBottomN
  /-- FX.dmgBottomUp (k = 34, R179). -/
  | fxDmgBottomUp
  /-- FX.dmgBottomErr (k = 35, R180). -/
  | fxDmgBottomErr
  /-- FX.dmgWaterE (k = 36, R181). -/
  | fxDmgWaterE
  /-- FX.dmgWaterN (k = 37, R182). -/
  | fxDmgWaterN
  /-- FX.dmgWaterUp (k = 38, R183). -/
  | fxDmgWaterUp
  /-- FX.dmgWaterErr (k = 39, R184). -/
  | fxDmgWaterErr
  /-- FX.checksum (k = 40, R185). -/
  | fxChecksum
  /-- PD5: the frame header match, tried at buffer offset `i` (R81). -/
  | pd5 (i : BitVec (delta% Config.wPtr))
  /-- RESET: the reset input (R240). -/
  | reset
  /-- SYNC(buf, n), n the number of bytes (R100). -/
  | sync (buf : List Byte)
  /-- VALIDATE(f) (R120). -/
  | validate (f : List Byte)
  /-- DECODEFN(f) (R140). -/
  | decodefn (f : List Byte)
  /-- ACQUIRE(nf, d, n), n the number of bytes (R197). -/
  | acquire (nf : BitVec (delta% Config.wNumformat)) (d : List Byte)
  deriving DecidableEq, Repr

/-- A call of one of the four pure functions, which have no encoding (R86, format PURE). -/
inductive PureCall where
  /-- SYNC on a byte sequence. -/
  | sync (buf : List Byte)
  /-- VALIDATE on a candidate frame. -/
  | validate (f : List Byte)
  /-- DECODEFN on a validated frame. -/
  | decodefn (f : List Byte)
  /-- ACQUIRE on a START operand and a delivery. -/
  | acquire (nf : BitVec (delta% Config.wNumformat)) (d : List Byte)
  deriving DecidableEq, Repr

/-- What the decoder reads an operation from: for each format of R86, that which selects it. -/
inductive Signal where
  /-- The 16-bit command word HCMD of the caller host (R83). -/
  | command (w : BitVec 16)
  /-- The transport host's answer (R85). -/
  | delivery (bytes : List Byte)
  /-- ST = HUNT: `none` when PTR == BUFLEN, else the input byte b = BUF[PTR] (R87). -/
  | hunt (look : Option Byte)
  /-- ST = ID: as for HUNT (R87). -/
  | ident (look : Option Byte)
  /-- ST = CAPT: CNT selects, the byte's value selects nothing (R87). -/
  | capt (cnt : BitVec 7)
  /-- ST = CHECK (R87). -/
  | check
  /-- ST = DECODE (R87). -/
  | decode
  /-- The selector FSEL of one field-extract stage (R88). -/
  | stage (fsel : BitVec (delta% Config.wFsel))
  /-- Two consecutive buffer bytes read as a little-endian number, and their offset (R81). -/
  | header (pair : BitVec 16) (i : BitVec (delta% Config.wPtr))
  /-- The reset input (R240). -/
  | resetLine
  /-- A pure function named with its arguments (R86). -/
  | call (c : PureCall)
  deriving DecidableEq, Repr

/-- The formats of the operation set (R86). -/
inductive Format where
  /-- HOST: selected by HCMD[15:14]. -/
  | host
  /-- XPORT: the transport host. -/
  | xport
  /-- STEP: a sequencer step. -/
  | step
  /-- FX: a field-extract stage. -/
  | fx
  /-- FRAME: the frame header match. -/
  | frame
  /-- RESET: the reset input. -/
  | reset
  /-- PURE: a function without an encoding. -/
  | pure
  deriving DecidableEq, Repr

/-- The format in which each operation stands in the table of R86. -/
def Instr.format : Instr → Format
  | .nop | .start _ | .rdstat | .rdfld _ => .host
  | .deliver _ => .xport
  | .huntEnd | .huntId | .huntSkip | .idEnd | .idMatch | .idAgain | .idMiss => .step
  | .captLenlo | .captLenhi | .captBody | .captCklo | .captCkhi | .check | .decode => .step
  | .fxId | .fxFormat | .fxByteCount | .fxSystemConfig | .fxVelBottomX => .fx
  | .fxVelBottomY | .fxVelBottomZ | .fxVelBottomE | .fxRangeBeam1 | .fxRangeBeam2 => .fx
  | .fxRangeBeam3 | .fxRangeBeam4 | .fxBottomStatus | .fxVelWaterMass1 | .fxVelWaterMass2 => .fx
  | .fxVelWaterMass3 | .fxVelWaterMass4 | .fxRefLayerStart | .fxRefLayerEnd | .fxRefLayerStatus => .fx
  | .fxTofpHour | .fxTofpMin | .fxTofpSec | .fxTofpErr | .fxBitResult => .fx
  | .fxSpeedOfSound | .fxTemperature | .fxSalinity | .fxDepth | .fxPitch => .fx
  | .fxRoll | .fxHeading | .fxDmgBottomE | .fxDmgBottomN | .fxDmgBottomUp => .fx
  | .fxDmgBottomErr | .fxDmgWaterE | .fxDmgWaterN | .fxDmgWaterUp | .fxDmgWaterErr => .fx
  | .fxChecksum => .fx
  | .pd5 _ => .frame
  | .reset => .reset
  | .sync _ | .validate _ | .decodefn _ | .acquire _ _ => .pure

/-- The format a signal selects in (R86). -/
def Signal.format : Signal → Format
  | .command _ => .host
  | .delivery _ => .xport
  | .hunt _ | .ident _ | .capt _ | .check | .decode => .step
  | .stage _ => .fx
  | .header _ _ => .frame
  | .resetLine => .reset
  | .call _ => .pure

end Sys2Proof
end

