-- ==== Sys2Proof/WellFormed.lean ====
section
/-! DEFINITION. Well-formed operations: the sizes of the byte sequences an operation carries. Every
other operand is bounded by its type. -/

namespace Sys2Proof

/-- A delivery carries 0 to 255 bytes (R85; `93_implementation_defined.md` U4). -/
def deliveryFits (bytes : List Byte) : Bool := decide (bytes.length ≤ Config.reqLen)

/-- A byte sequence the synchronizer takes is a RawBuffer of at most 255 bytes (R21, R100). -/
def bufferFits (buf : List Byte) : Bool := decide (buf.length ≤ Config.bufCap)

/-- A frame is exactly 88 bytes (R80, R120, R140). -/
def frameFits (f : List Byte) : Bool := decide (f.length = Config.frameLen)

/-- The operation's byte sequences have the sizes the spec gives them. -/
def Instr.wellFormed : Instr → Bool
  | .deliver bytes => deliveryFits bytes
  | .sync buf => bufferFits buf
  | .validate f => frameFits f
  | .decodefn f => frameFits f
  | .acquire _ d => deliveryFits d
  | .nop | .start _ | .rdstat | .rdfld _ | .pd5 _ | .reset => true
  | .huntEnd | .huntId | .huntSkip | .idEnd | .idMatch | .idAgain | .idMiss => true
  | .captLenlo | .captLenhi | .captBody | .captCklo | .captCkhi | .check | .decode => true
  | .fxId | .fxFormat | .fxByteCount | .fxSystemConfig | .fxVelBottomX => true
  | .fxVelBottomY | .fxVelBottomZ | .fxVelBottomE | .fxRangeBeam1 | .fxRangeBeam2 => true
  | .fxRangeBeam3 | .fxRangeBeam4 | .fxBottomStatus | .fxVelWaterMass1 | .fxVelWaterMass2 => true
  | .fxVelWaterMass3 | .fxVelWaterMass4 | .fxRefLayerStart | .fxRefLayerEnd | .fxRefLayerStatus => true
  | .fxTofpHour | .fxTofpMin | .fxTofpSec | .fxTofpErr | .fxBitResult => true
  | .fxSpeedOfSound | .fxTemperature | .fxSalinity | .fxDepth | .fxPitch => true
  | .fxRoll | .fxHeading | .fxDmgBottomE | .fxDmgBottomN | .fxDmgBottomUp => true
  | .fxDmgBottomErr | .fxDmgWaterE | .fxDmgWaterN | .fxDmgWaterUp | .fxDmgWaterErr => true
  | .fxChecksum => true

end Sys2Proof
end

