-- ==== Sys2Proof/Decode.lean ====
section
/-! DEFINITION. The decoder, total on every signal and rejecting by name, and the encoder, written
from the tables of `30_encoding.md` (R81, R83, R85 to R88) and `spec/opcode_table.json`. -/

namespace Sys2Proof

/-- Why a signal is no operation. Raised by `decode` alone; safe: the step stops. -/
inductive DecodeError where
  /-- ST = CAPT with CNT outside 2 to 87: no row of R87 selects a step (unreachable, R35). -/
  | noStepSelected (cnt : BitVec 7)
  /-- FSEL 41 to 63 selects no stage (R88). -/
  | reservedSelector (fsel : BitVec (delta% Config.wFsel))
  /-- Two bytes that are not (0x7D, 0x01) are no frame header (R81, R89). -/
  | notAFrameHeader (pair : BitVec 16)
  /-- A delivery of more than 255 bytes cannot be expressed (U4). -/
  | overlongDelivery (n : Nat)
  /-- A byte sequence of a size the pure function does not take (R100, R120, R140, R197). -/
  | badSize (n : Nat)
  deriving DecidableEq, Repr

/-- The fields in the order of their numbers k = 0 to 40 (R32, R88). -/
def allFields : List Field :=
  [.id, .format, .byteCount, .systemConfig, .velBottomX, .velBottomY,
   .velBottomZ, .velBottomE, .rangeBeam1, .rangeBeam2, .rangeBeam3, .rangeBeam4,
   .bottomStatus, .velWaterMass1, .velWaterMass2, .velWaterMass3, .velWaterMass4, .refLayerStart,
   .refLayerEnd, .refLayerStatus, .tofpHour, .tofpMin, .tofpSec, .tofpErr,
   .bitResult, .speedOfSound, .temperature, .salinity, .depth, .pitch,
   .roll, .heading, .dmgBottomE, .dmgBottomN, .dmgBottomUp, .dmgBottomErr,
   .dmgWaterE, .dmgWaterN, .dmgWaterUp, .dmgWaterErr, .checksum]

/-- The field that FSEL = k selects; none for 41 to 63 (R88). -/
def fieldOfSelector (k : BitVec (delta% Config.wFsel)) : Option Field :=
  if k.toNat < Config.nFields then allFields[k.toNat]? else none

/-- The stage operation of a field (R86, format FX). -/
def stageOf : Field → Instr
  | .id => .fxId
  | .format => .fxFormat
  | .byteCount => .fxByteCount
  | .systemConfig => .fxSystemConfig
  | .velBottomX => .fxVelBottomX
  | .velBottomY => .fxVelBottomY
  | .velBottomZ => .fxVelBottomZ
  | .velBottomE => .fxVelBottomE
  | .rangeBeam1 => .fxRangeBeam1
  | .rangeBeam2 => .fxRangeBeam2
  | .rangeBeam3 => .fxRangeBeam3
  | .rangeBeam4 => .fxRangeBeam4
  | .bottomStatus => .fxBottomStatus
  | .velWaterMass1 => .fxVelWaterMass1
  | .velWaterMass2 => .fxVelWaterMass2
  | .velWaterMass3 => .fxVelWaterMass3
  | .velWaterMass4 => .fxVelWaterMass4
  | .refLayerStart => .fxRefLayerStart
  | .refLayerEnd => .fxRefLayerEnd
  | .refLayerStatus => .fxRefLayerStatus
  | .tofpHour => .fxTofpHour
  | .tofpMin => .fxTofpMin
  | .tofpSec => .fxTofpSec
  | .tofpErr => .fxTofpErr
  | .bitResult => .fxBitResult
  | .speedOfSound => .fxSpeedOfSound
  | .temperature => .fxTemperature
  | .salinity => .fxSalinity
  | .depth => .fxDepth
  | .pitch => .fxPitch
  | .roll => .fxRoll
  | .heading => .fxHeading
  | .dmgBottomE => .fxDmgBottomE
  | .dmgBottomN => .fxDmgBottomN
  | .dmgBottomUp => .fxDmgBottomUp
  | .dmgBottomErr => .fxDmgBottomErr
  | .dmgWaterE => .fxDmgWaterE
  | .dmgWaterN => .fxDmgWaterN
  | .dmgWaterUp => .fxDmgWaterUp
  | .dmgWaterErr => .fxDmgWaterErr
  | .checksum => .fxChecksum

/-- CMD, bits 15 to 14 of the command word (R83). -/
def cmdBits (w : BitVec 16) : BitVec 2 := w.extractLsb' 14 2

/-- FSEL, bits 13 to 8 of the command word (R83). -/
def fselBits (w : BitVec 16) : BitVec (delta% Config.wFsel) := w.extractLsb' 8 _

/-- ARG, bits 7 to 0 of the command word (R83). -/
def argBits (w : BitVec 16) : BitVec (delta% Config.wNumformat) := w.extractLsb' 0 _

/-- The word with CMD = c, FSEL = k and ARG = a (the figure of R83). -/
def commandWord (c : BitVec 2) (k : BitVec (delta% Config.wFsel))
    (a : BitVec (delta% Config.wNumformat)) : BitVec 16 := c ++ k ++ a

/-- The command a word stands for: every one of the 65536 words is a command, and the bits the
table calls ignored change nothing (R83, U7). -/
def decodeCommand (w : BitVec 16) : Instr :=
  match (cmdBits w).toNat with
  | 0 => .nop
  | 1 => .start (argBits w)
  | 2 => .rdstat
  | _ => .rdfld (fselBits w)

/-- The step selected in HUNT, first applicable row of R87. -/
def decodeHunt : Option Byte → Instr
  | none => .huntEnd
  | some b => if b = Config.idByte then .huntId else .huntSkip

/-- The step selected in ID, first applicable row of R87. -/
def decodeIdent : Option Byte → Instr
  | none => .idEnd
  | some b =>
    if b = Config.fmtByte then .idMatch else if b = Config.idByte then .idAgain else .idMiss

/-- The step selected in CAPT by CNT (R87). -/
def decodeCapt (cnt : BitVec 7) : Except DecodeError Instr :=
  if cnt.toNat = Config.lenOff then .ok .captLenlo
  else if cnt.toNat = Config.lenOff + 1 then .ok .captLenhi
  else if Config.lenOff + 2 ≤ cnt.toNat ∧ cnt.toNat < Config.ckOff then .ok .captBody
  else if cnt.toNat = Config.ckOff then .ok .captCklo
  else if cnt.toNat = Config.ckOff + 1 then .ok .captCkhi
  else .error (.noStepSelected cnt)

/-- The pure function named by a call, on arguments of the sizes it takes. -/
def decodeCall : PureCall → Except DecodeError Instr
  | .sync buf => if bufferFits buf then .ok (.sync buf) else .error (.badSize buf.length)
  | .validate f => if frameFits f then .ok (.validate f) else .error (.badSize f.length)
  | .decodefn f => if frameFits f then .ok (.decodefn f) else .error (.badSize f.length)
  | .acquire nf d => if deliveryFits d then .ok (.acquire nf d) else .error (.badSize d.length)

/-- The decoder: total on every signal. -/
def decode : Signal → Except DecodeError Instr
  | .command w => .ok (decodeCommand w)
  | .delivery bytes =>
    if deliveryFits bytes then .ok (.deliver bytes) else .error (.overlongDelivery bytes.length)
  | .hunt look => .ok (decodeHunt look)
  | .ident look => .ok (decodeIdent look)
  | .capt cnt => decodeCapt cnt
  | .check => .ok .check
  | .decode => .ok .decode
  | .stage fsel =>
    match fieldOfSelector fsel with
    | some f => .ok (stageOf f)
    | none => .error (.reservedSelector fsel)
  | .header pair i =>
    if pair = Config.headerPair then .ok (.pd5 i) else .error (.notAFrameHeader pair)
  | .resetLine => .ok .reset
  | .call c => decodeCall c

/-- The encoder: the signal of an operation, with ignored bits 0 (R83), and, where R87 gives a row
any byte or a range of CNT, one choice from it. -/
def encode : Instr → Signal
  | .nop => .command (commandWord 0b00#2 0#_ 0#_)
  | .start nf => .command (commandWord 0b01#2 0#_ nf)
  | .rdstat => .command (commandWord 0b10#2 0#_ 0#_)
  | .rdfld k => .command (commandWord 0b11#2 k 0#_)
  | .deliver bytes => .delivery bytes
  | .huntEnd => .hunt none
  | .huntId => .hunt (some Config.idByte)
  | .huntSkip => .hunt (some 0x00#8)
  | .idEnd => .ident none
  | .idMatch => .ident (some Config.fmtByte)
  | .idAgain => .ident (some Config.idByte)
  | .idMiss => .ident (some 0x00#8)
  | .captLenlo => .capt (BitVec.ofNat 7 Config.lenOff)
  | .captLenhi => .capt (BitVec.ofNat 7 (Config.lenOff + 1))
  | .captBody => .capt (BitVec.ofNat 7 (Config.lenOff + 2))
  | .captCklo => .capt (BitVec.ofNat 7 Config.ckOff)
  | .captCkhi => .capt (BitVec.ofNat 7 (Config.ckOff + 1))
  | .check => .check
  | .decode => .decode
  | .fxId => .stage 0x00#_
  | .fxFormat => .stage 0x01#_
  | .fxByteCount => .stage 0x02#_
  | .fxSystemConfig => .stage 0x03#_
  | .fxVelBottomX => .stage 0x04#_
  | .fxVelBottomY => .stage 0x05#_
  | .fxVelBottomZ => .stage 0x06#_
  | .fxVelBottomE => .stage 0x07#_
  | .fxRangeBeam1 => .stage 0x08#_
  | .fxRangeBeam2 => .stage 0x09#_
  | .fxRangeBeam3 => .stage 0x0A#_
  | .fxRangeBeam4 => .stage 0x0B#_
  | .fxBottomStatus => .stage 0x0C#_
  | .fxVelWaterMass1 => .stage 0x0D#_
  | .fxVelWaterMass2 => .stage 0x0E#_
  | .fxVelWaterMass3 => .stage 0x0F#_
  | .fxVelWaterMass4 => .stage 0x10#_
  | .fxRefLayerStart => .stage 0x11#_
  | .fxRefLayerEnd => .stage 0x12#_
  | .fxRefLayerStatus => .stage 0x13#_
  | .fxTofpHour => .stage 0x14#_
  | .fxTofpMin => .stage 0x15#_
  | .fxTofpSec => .stage 0x16#_
  | .fxTofpErr => .stage 0x17#_
  | .fxBitResult => .stage 0x18#_
  | .fxSpeedOfSound => .stage 0x19#_
  | .fxTemperature => .stage 0x1A#_
  | .fxSalinity => .stage 0x1B#_
  | .fxDepth => .stage 0x1C#_
  | .fxPitch => .stage 0x1D#_
  | .fxRoll => .stage 0x1E#_
  | .fxHeading => .stage 0x1F#_
  | .fxDmgBottomE => .stage 0x20#_
  | .fxDmgBottomN => .stage 0x21#_
  | .fxDmgBottomUp => .stage 0x22#_
  | .fxDmgBottomErr => .stage 0x23#_
  | .fxDmgWaterE => .stage 0x24#_
  | .fxDmgWaterN => .stage 0x25#_
  | .fxDmgWaterUp => .stage 0x26#_
  | .fxDmgWaterErr => .stage 0x27#_
  | .fxChecksum => .stage 0x28#_
  | .pd5 i => .header Config.headerPair i
  | .reset => .resetLine
  | .sync buf => .call (.sync buf)
  | .validate f => .call (.validate f)
  | .decodefn f => .call (.decodefn f)
  | .acquire nf d => .call (.acquire nf d)

/-- Which signal a row's bits stand for when only a bit count and a number are given (log entry 11):
16 bits are the header pair when they are 0x017D, else a command word; 8 bits with bits 7 to 6 zero
are a 6-bit field selector, else a stream byte met in HUNT; no other count names a signal. -/
def signalOfTableWord (nbits w : Nat) : Option Signal :=
  if nbits = 16 then
    if BitVec.ofNat 16 w = Config.headerPair then some (.header (BitVec.ofNat 16 w) 0#_)
    else some (.command (BitVec.ofNat 16 w))
  else if nbits = 8 then
    if w % 256 < 2 ^ Config.wFsel then some (.stage (BitVec.ofNat _ w))
    else some (.hunt (some (BitVec.ofNat 8 w)))
  else none

/-- The instruction the decoder reads from the table's bits. -/
def decodeTableWord (nbits w : Nat) : Option Instr :=
  match signalOfTableWord nbits w with
  | none => none
  | some sig =>
    match decode sig with
    | .ok i => some i
    | .error _ => none

end Sys2Proof
end

