-- ==== Sys2Proof/Machine/State.lean ====
section
/-! DEFINITION. The state of the block (`10_state.md` rule R20) as plain data, the model's own fields
beside it, the reasons a step can stop, and the state after reset (R39). -/

namespace Sys2Proof.Machine

/-- The contents of BUF or FRAME: (index, byte) pairs, indices strictly rising, a cell that holds no
value not listed. An unlisted cell has NO value (R39, U9; log entry 2). -/
abbrev Memory := List Host.Cell

/-- The six outcomes of a cycle (R210); STATUS patterns 6 and 7 do not exist (R89, U6). -/
inductive OutcomeCode where
  /-- 0 Success. -/
  | success
  /-- 1 PortUnresponsive. -/
  | portUnresponsive
  /-- 2 StreamTruncated. -/
  | streamTruncated
  /-- 3 FrameNotFound / WrongFormat. -/
  | frameNotFound
  /-- 4 ChecksumMismatch. -/
  | checksumMismatch
  /-- 5 UnsupportedFormat. -/
  | unsupportedFormat
  deriving DecidableEq, Repr

/-- ENS[0..40], the document's DVLEnsemble: each register unwritten (`none`) or a bit pattern of its
own width (R32). -/
structure Ensemble where
  /-- ENS[0] (R145), type u8. -/
  id : Option (BitVec 8)
  /-- ENS[1] (R146), type u8. -/
  format : Option (BitVec 8)
  /-- ENS[2] (R147), type u16. -/
  byteCount : Option (BitVec 16)
  /-- ENS[3] (R148), type u8. -/
  systemConfig : Option (BitVec 8)
  /-- ENS[4] (R149), type s16. -/
  velBottomX : Option (BitVec 16)
  /-- ENS[5] (R150), type s16. -/
  velBottomY : Option (BitVec 16)
  /-- ENS[6] (R151), type s16. -/
  velBottomZ : Option (BitVec 16)
  /-- ENS[7] (R152), type s16. -/
  velBottomE : Option (BitVec 16)
  /-- ENS[8] (R153), type u16. -/
  rangeBeam1 : Option (BitVec 16)
  /-- ENS[9] (R154), type u16. -/
  rangeBeam2 : Option (BitVec 16)
  /-- ENS[10] (R155), type u16. -/
  rangeBeam3 : Option (BitVec 16)
  /-- ENS[11] (R156), type u16. -/
  rangeBeam4 : Option (BitVec 16)
  /-- ENS[12] (R157), type u8. -/
  bottomStatus : Option (BitVec 8)
  /-- ENS[13] (R158), type s16. -/
  velWaterMass1 : Option (BitVec 16)
  /-- ENS[14] (R159), type s16. -/
  velWaterMass2 : Option (BitVec 16)
  /-- ENS[15] (R160), type s16. -/
  velWaterMass3 : Option (BitVec 16)
  /-- ENS[16] (R161), type s16. -/
  velWaterMass4 : Option (BitVec 16)
  /-- ENS[17] (R162), type u16. -/
  refLayerStart : Option (BitVec 16)
  /-- ENS[18] (R163), type u16. -/
  refLayerEnd : Option (BitVec 16)
  /-- ENS[19] (R164), type u8. -/
  refLayerStatus : Option (BitVec 8)
  /-- ENS[20] (R165), type u8. -/
  tofpHour : Option (BitVec 8)
  /-- ENS[21] (R166), type u8. -/
  tofpMin : Option (BitVec 8)
  /-- ENS[22] (R167), type u8. -/
  tofpSec : Option (BitVec 8)
  /-- ENS[23] (R168), type u8. -/
  tofpErr : Option (BitVec 8)
  /-- ENS[24] (R169), type u16. -/
  bitResult : Option (BitVec 16)
  /-- ENS[25] (R170), type u16. -/
  speedOfSound : Option (BitVec 16)
  /-- ENS[26] (R171), type s16. -/
  temperature : Option (BitVec 16)
  /-- ENS[27] (R172), type u8. -/
  salinity : Option (BitVec 8)
  /-- ENS[28] (R173), type u16. -/
  depth : Option (BitVec 16)
  /-- ENS[29] (R174), type s16. -/
  pitch : Option (BitVec 16)
  /-- ENS[30] (R175), type s16. -/
  roll : Option (BitVec 16)
  /-- ENS[31] (R176), type s16. -/
  heading : Option (BitVec 16)
  /-- ENS[32] (R177), type u32. -/
  dmgBottomE : Option (BitVec 32)
  /-- ENS[33] (R178), type u32. -/
  dmgBottomN : Option (BitVec 32)
  /-- ENS[34] (R179), type u32. -/
  dmgBottomUp : Option (BitVec 32)
  /-- ENS[35] (R180), type u32. -/
  dmgBottomErr : Option (BitVec 32)
  /-- ENS[36] (R181), type u32. -/
  dmgWaterE : Option (BitVec 32)
  /-- ENS[37] (R182), type u32. -/
  dmgWaterN : Option (BitVec 32)
  /-- ENS[38] (R183), type u32. -/
  dmgWaterUp : Option (BitVec 32)
  /-- ENS[39] (R184), type u32. -/
  dmgWaterErr : Option (BitVec 32)
  /-- ENS[40] (R185), type u16. -/
  checksum : Option (BitVec 16)
  deriving DecidableEq, Repr

/-- Every ENS register unwritten (R32, R39). -/
def Ensemble.unwritten : Ensemble where
  id := none
  format := none
  byteCount := none
  systemConfig := none
  velBottomX := none
  velBottomY := none
  velBottomZ := none
  velBottomE := none
  rangeBeam1 := none
  rangeBeam2 := none
  rangeBeam3 := none
  rangeBeam4 := none
  bottomStatus := none
  velWaterMass1 := none
  velWaterMass2 := none
  velWaterMass3 := none
  velWaterMass4 := none
  refLayerStart := none
  refLayerEnd := none
  refLayerStatus := none
  tofpHour := none
  tofpMin := none
  tofpSec := none
  tofpErr := none
  bitResult := none
  speedOfSound := none
  temperature := none
  salinity := none
  depth := none
  pitch := none
  roll := none
  heading := none
  dmgBottomE := none
  dmgBottomN := none
  dmgBottomUp := none
  dmgBottomErr := none
  dmgWaterE := none
  dmgWaterN := none
  dmgWaterUp := none
  dmgWaterErr := none
  checksum := none

/-- What RDSTAT answers (R195): the four flags, and STATUS or no value (R84). -/
structure StatusAnswer where
  /-- Bit 7. -/
  done : Bool
  /-- Bit 6. -/
  busy : Bool
  /-- Bit 5. -/
  rxreq : Bool
  /-- Bit 4. -/
  ensValid : Bool
  /-- Bits 2 to 0: no value when DONE = 0 (U3). -/
  status : Option OutcomeCode
  deriving DecidableEq, Repr

/-- The outputs of SYNC (R100). -/
inductive SyncResult where
  /-- No marker pair in the buffer. -/
  | frameNotFound
  /-- The frame at the first pair runs past the buffer. -/
  | streamTruncated
  /-- The frame is bytes i to i + 87. -/
  | candidateFrame (i : Nat)
  deriving DecidableEq, Repr

/-- The outputs of VALIDATE (R120). -/
inductive ValidateResult where
  /-- Computed and transmitted checksums are equal. -/
  | validatedFrame
  /-- They differ. -/
  | checksumMismatch
  deriving DecidableEq, Repr

/-- What an operation lets the outside see: the request of R192, the answers of RDSTAT and RDFLD, the
result of a header match, and the results of the pure functions. -/
inductive Event where
  /-- RxRequest(n): the block asks the transport for n bytes (R192). -/
  | rxRequest (n : Nat)
  /-- RDSTAT's answer (R195). -/
  | status (a : StatusAnswer)
  /-- RDFLD's answer: `some FDATA` is valid = 1, `none` is valid = 0 without data (R186, R187). -/
  | field (fdata : Option (BitVec (delta% Config.wFdata)))
  /-- Whether a frame header starts at the offset tried (R81). -/
  | header (matched : Bool)
  /-- SYNC's result. -/
  | synced (r : SyncResult)
  /-- VALIDATE's result. -/
  | validated (r : ValidateResult)
  /-- DECODEFN's result; `none` only on a sequence that is no 88-byte frame. -/
  | decoded (e : Option Ensemble)
  /-- ACQUIRE's result: the outcome, and the ensemble for Success alone. -/
  | acquired (o : OutcomeCode) (e : Option Ensemble)
  deriving DecidableEq, Repr

/-- What is presented to the block at one step, in the one order in which host operations and
sequencer steps are serialised (D26, R67). -/
inductive Input where
  /-- The caller host gives a command word (R83). -/
  | command (w : BitVec 16)
  /-- The transport host gives a delivery (R85). -/
  | delivery (bytes : List Byte)
  /-- No host acts: the block takes its own sequencer step, STEP of R91. -/
  | tick
  /-- The reset input is asserted (R240). -/
  | resetLine
  /-- One field-extract stage alone; no port of the block presents it (log entry 6). -/
  | stage (fsel : BitVec (delta% Config.wFsel))
  /-- One frame header match alone; no port of the block presents it (log entry 6). -/
  | header (pair : BitVec 16) (i : BitVec (delta% Config.wPtr))
  /-- One call of a pure function; no port of the block presents it (log entry 6). -/
  | call (c : PureCall)
  deriving DecidableEq, Repr

/-- Why the machine stops. Every one is safe: the model stops where no rule gives an effect. -/
inductive Fault where
  /-- A sequencer step whose row of R87 does not select it in this state (R200: "is not enabled");
  raised by the STEP meanings. Safe. -/
  | stepNotEnabled
  /-- A read of BUF[j] with j >= BUFLEN (R7); raised by the reads of the scan and of CAPT. Safe. -/
  | bufOutOfRange (j : Nat)
  /-- A read of a BUF cell that nothing has written (U9); raised by the same reads and by PD5. Safe. -/
  | bufUnwritten (j : Nat)
  /-- A read of FRAME bytes from offset j on, one of which nothing has written (U9); raised by the
  stages and DECODE. Safe. -/
  | frameUnwritten (j : Nat)
  deriving DecidableEq, Repr

/-- Why a step has no meaning. Every one is safe: the model stops. -/
inductive Refusal where
  /-- The instruction has no meaning yet; raised by `exec`'s refused arms alone. Safe. -/
  | notModelled (mnemonic : String)
  /-- The decoder rejects the signal presented; raised by `step`. Safe. -/
  | undecodable (e : DecodeError)
  /-- A delivery of more than 255 bytes, a move that does not exist (U4); raised by DELIVER. Safe. -/
  | overlongDelivery (n : Nat)
  /-- A byte sequence of a size a pure function does not take (R100, R120, R140, R197); raised by
  the PURE meanings. Safe. -/
  | badSize (n : Nat)
  deriving DecidableEq, Repr

/-- The state of the block: every row of the table of R20, then the model's own three fields. -/
structure State where
  /-- ST (R24). -/
  st : SeqState
  /-- NUMFORMAT (R31). -/
  numformat : BitVec (delta% Config.wNumformat)
  /-- BUF[0..254] (R21). -/
  buf : Memory
  /-- BUFLEN (R22). -/
  buflen : BitVec (delta% Config.wPtr)
  /-- PTR (R25). -/
  ptr : BitVec (delta% Config.wPtr)
  /-- OFF (R26). -/
  off : BitVec (delta% Config.wPtr)
  /-- CNT (R27). -/
  cnt : BitVec 7
  /-- LEN (R28). -/
  len : BitVec 16
  /-- SUM (R29). -/
  sum : BitVec (delta% Config.wSum)
  /-- CKRX (R30). -/
  ckrx : BitVec 16
  /-- FRAME[0..87] (R23). -/
  frame : Memory
  /-- ENS[0..40] (R32). -/
  ens : Ensemble
  /-- STATUS: an outcome code or no value (R33). -/
  status : Option OutcomeCode
  /-- The MODEL's own: what the outside presents next, oldest first (log entry 4). -/
  inputs : List Input
  /-- The MODEL's own: the event history of R38, oldest first (log entry 5). -/
  history : List Event
  /-- The MODEL's own: how many free values a run has drawn (log entry 3). -/
  draws : Nat
  deriving DecidableEq, Repr

/-- What an operation answers. -/
abbrev Result := Host.Outcome State Fault Refusal

/-- The machine right after reset (R39). NUMFORMAT has no value in the spec and holds 0 here
(DESIGN CHOICE, log entry 1); no cell of BUF or FRAME holds a value. -/
def State.reset : State where
  st := .idle
  numformat := 0#_
  buf := []
  buflen := 0#_
  ptr := 0#_
  off := 0#_
  cnt := 0#_
  len := 0#_
  sum := 0#_
  ckrx := 0#_
  frame := []
  ens := Ensemble.unwritten
  status := none
  inputs := []
  history := []
  draws := 0

end Sys2Proof.Machine
end

