-- ==== Sys2Proof/Machine/Ops.lean ====
section
/-! DEFINITION. The named operations over memories and registers that the meanings share: reading,
writing and loading a memory, reading BUF at PTR, the end of a cycle (`raise`, R219) and its
counterpart, the re-initialisation of an accepted START (R36, R221). -/

namespace Sys2Proof.Machine

/-- The byte a cell holds, `none` where nothing has written it. -/
def Memory.read : Memory → Nat → Option Byte
  | [], _ => none
  | (k, v) :: rest, a => if k = a then some v else Memory.read rest a

/-- The memory after one cell is written, in canonical form again. -/
def Memory.write : Memory → Nat → Byte → Memory
  | [], a, b => [(a, b)]
  | (k, v) :: rest, a, b =>
    if a < k then (a, b) :: (k, v) :: rest
    else if a = k then (a, b) :: rest
    else (k, v) :: Memory.write rest a b

/-- The memory whose cells from index `a` on hold the bytes of a list, in order. -/
def Memory.loadFrom : Nat → List Byte → Memory
  | _, [] => []
  | a, b :: rest => (a, b) :: Memory.loadFrom (a + 1) rest

/-- The memory whose cell j holds the j-th byte of a list (R193: BUF[j] <- d[j]). -/
def Memory.load (bytes : List Byte) : Memory := Memory.loadFrom 0 bytes

/-- The canonical form: cell indices strictly rising. -/
def Memory.wf : Memory → Bool
  | [] => true
  | [_] => true
  | (a, _) :: (b, c) :: rest => decide (a < b) && Memory.wf ((b, c) :: rest)

/-- Every listed cell lies in a space of `cap` cells (R60). -/
def Memory.within (cap : Nat) (m : Memory) : Bool := m.all (fun c => decide (c.1 < cap))

/-- BUF[PTR] (R7): a read at or past BUFLEN is a fault, and so is a read of an unwritten cell. -/
def State.bufByte (s : State) : Except Fault Byte :=
  if s.ptr < s.buflen then
    match s.buf.read s.ptr.toNat with
    | some b => .ok b
    | none => .error (.bufUnwritten s.ptr.toNat)
  else .error (.bufOutOfRange s.ptr.toNat)

/-- The input byte of a scan step (R87): `none` when PTR == BUFLEN, and then no byte is read. -/
def State.look (s : State) : Except Fault (Option Byte) :=
  if s.ptr = s.buflen then .ok none
  else
    match s.bufByte with
    | .ok b => .ok (some b)
    | .error f => .error f

/-- PTR <- PTR + 1 (R25). -/
def State.advance (s : State) : State := { s with ptr := s.ptr + 1#_ }

/-- Records an event in the history (R38). -/
def State.emit (s : State) (e : Event) : State := { s with history := s.history ++ [e] }

/-- `raise X` (R219): STATUS <- code(X), ST <- DONE, and nothing else. DECODE ends a Success the same
way. -/
def State.raise (s : State) (o : OutcomeCode) : State := { s with status := some o, st := .done }

/-- The re-initialisation of an accepted START (R36), the return from an outcome (R221): BUF and
FRAME keep their bytes. -/
def State.reinit (s : State) (nf : BitVec (delta% Config.wNumformat)) : State :=
  { s with
    numformat := nf, buflen := 0#_, ptr := 0#_, off := 0#_, cnt := 0#_, len := 0#_, sum := 0#_,
    ckrx := 0#_,
    ens := Ensemble.unwritten, status := none }

/-- One accumulation (R121): SUM <- (SUM + zext_16(b)) mod 65536, the carry dropped. -/
def State.accumulate (s : State) (b : Byte) : State := { s with sum := s.sum + zext _ b }

/-- A meaning that reads the byte BUF[PTR] and goes on with it. -/
def State.onByte (s : State) (k : Byte → Result) : Result :=
  match s.bufByte with
  | .ok b => k b
  | .error f => .fault f

/-- What every CAPT step does (R122 to R126, "every CAPT step"): enabled in ST = CAPT for CNT in a
range, it reads b = BUF[PTR], writes FRAME[CNT] <- b and adds 1 to PTR and CNT; the rest is the
step's own. -/
def State.capture (s : State) (lo hi : Nat) (rest : Byte → State → State) : Result :=
  if s.st = .capt ∧ lo ≤ s.cnt.toNat ∧ s.cnt.toNat ≤ hi then
    s.onByte fun b =>
      .next (rest b { s with
        frame := s.frame.write s.cnt.toNat b, ptr := s.ptr + 1#_, cnt := s.cnt + 1#_ })
  else .fault .stepNotEnabled

end Sys2Proof.Machine
end

