-- ==== Sys2Proof/Machine/Operands.lean ====
section
/-! DEFINITION. Operand forms (`30_encoding.md` rule R82, `42_field_decoder.md` rules R141, R142): the
little-endian read of FRAME, the field table (offset, size, type), the ENS registers by field, the
extension to the 32-bit read port, and the halves of LEN and CKRX. -/

namespace Sys2Proof.Machine

/-- How a field's pattern is read as a number (R32, R142). -/
inductive FieldType where
  /-- Unsigned, one byte; the document's "1B" and "u8" (D9). -/
  | u8
  /-- Unsigned, two bytes. -/
  | u16
  /-- Two's complement, two bytes. -/
  | s16
  /-- Unsigned, four bytes. -/
  | u32
  deriving DecidableEq, Repr

/-- The type of each field (R32, R145 to R185). -/
def fieldType : Field → FieldType
  | .id => .u8
  | .format => .u8
  | .byteCount => .u16
  | .systemConfig => .u8
  | .velBottomX => .s16
  | .velBottomY => .s16
  | .velBottomZ => .s16
  | .velBottomE => .s16
  | .rangeBeam1 => .u16
  | .rangeBeam2 => .u16
  | .rangeBeam3 => .u16
  | .rangeBeam4 => .u16
  | .bottomStatus => .u8
  | .velWaterMass1 => .s16
  | .velWaterMass2 => .s16
  | .velWaterMass3 => .s16
  | .velWaterMass4 => .s16
  | .refLayerStart => .u16
  | .refLayerEnd => .u16
  | .refLayerStatus => .u8
  | .tofpHour => .u8
  | .tofpMin => .u8
  | .tofpSec => .u8
  | .tofpErr => .u8
  | .bitResult => .u16
  | .speedOfSound => .u16
  | .temperature => .s16
  | .salinity => .u8
  | .depth => .u16
  | .pitch => .s16
  | .roll => .s16
  | .heading => .s16
  | .dmgBottomE => .u32
  | .dmgBottomN => .u32
  | .dmgBottomUp => .u32
  | .dmgBottomErr => .u32
  | .dmgWaterE => .u32
  | .dmgWaterN => .u32
  | .dmgWaterUp => .u32
  | .dmgWaterErr => .u32
  | .checksum => .u16

/-- The frame offset of each field's first byte (R32, R145 to R185). -/
def fieldOffset : Field → Nat
  | .id => 0
  | .format => 1
  | .byteCount => 2
  | .systemConfig => 4
  | .velBottomX => 5
  | .velBottomY => 7
  | .velBottomZ => 9
  | .velBottomE => 11
  | .rangeBeam1 => 13
  | .rangeBeam2 => 15
  | .rangeBeam3 => 17
  | .rangeBeam4 => 19
  | .bottomStatus => 21
  | .velWaterMass1 => 22
  | .velWaterMass2 => 24
  | .velWaterMass3 => 26
  | .velWaterMass4 => 28
  | .refLayerStart => 30
  | .refLayerEnd => 32
  | .refLayerStatus => 34
  | .tofpHour => 35
  | .tofpMin => 36
  | .tofpSec => 37
  | .tofpErr => 38
  | .bitResult => 39
  | .speedOfSound => 41
  | .temperature => 43
  | .salinity => 45
  | .depth => 46
  | .pitch => 48
  | .roll => 50
  | .heading => 52
  | .dmgBottomE => 54
  | .dmgBottomN => 58
  | .dmgBottomUp => 62
  | .dmgBottomErr => 66
  | .dmgWaterE => 70
  | .dmgWaterN => 74
  | .dmgWaterUp => 78
  | .dmgWaterErr => 82
  | .checksum => 86

/-- The number of frame bytes of each field (R32, R145 to R185). -/
def fieldBytes : Field → Nat
  | .id => 1
  | .format => 1
  | .byteCount => 2
  | .systemConfig => 1
  | .velBottomX => 2
  | .velBottomY => 2
  | .velBottomZ => 2
  | .velBottomE => 2
  | .rangeBeam1 => 2
  | .rangeBeam2 => 2
  | .rangeBeam3 => 2
  | .rangeBeam4 => 2
  | .bottomStatus => 1
  | .velWaterMass1 => 2
  | .velWaterMass2 => 2
  | .velWaterMass3 => 2
  | .velWaterMass4 => 2
  | .refLayerStart => 2
  | .refLayerEnd => 2
  | .refLayerStatus => 1
  | .tofpHour => 1
  | .tofpMin => 1
  | .tofpSec => 1
  | .tofpErr => 1
  | .bitResult => 2
  | .speedOfSound => 2
  | .temperature => 2
  | .salinity => 1
  | .depth => 2
  | .pitch => 2
  | .roll => 2
  | .heading => 2
  | .dmgBottomE => 4
  | .dmgBottomN => 4
  | .dmgBottomUp => 4
  | .dmgBottomErr => 4
  | .dmgWaterE => 4
  | .dmgWaterN => 4
  | .dmgWaterUp => 4
  | .dmgWaterErr => 4
  | .checksum => 2

/-- The width of each field's register, 8 bits a byte (R32). -/
def fieldWidth (f : Field) : Nat := 8 * fieldBytes f

/-- MemRead(j, n) of R7: n bytes from offset j, the byte at the lower offset the less significant
(R62, R141); no value where one of the bytes has none. -/
def memRead (m : Memory) (j : Nat) : (n : Nat) → Option (BitVec (8 * n))
  | 0 => some 0#0
  | n + 1 =>
    match m.read j, memRead m (j + 1) n with
    | some lo, some hi => some (hi ++ lo)
    | _, _ => none

/-- Register ENS[k] by its field. -/
def ensGet (e : Ensemble) : (f : Field) → Option (BitVec (fieldWidth f))
  | .id => e.id
  | .format => e.format
  | .byteCount => e.byteCount
  | .systemConfig => e.systemConfig
  | .velBottomX => e.velBottomX
  | .velBottomY => e.velBottomY
  | .velBottomZ => e.velBottomZ
  | .velBottomE => e.velBottomE
  | .rangeBeam1 => e.rangeBeam1
  | .rangeBeam2 => e.rangeBeam2
  | .rangeBeam3 => e.rangeBeam3
  | .rangeBeam4 => e.rangeBeam4
  | .bottomStatus => e.bottomStatus
  | .velWaterMass1 => e.velWaterMass1
  | .velWaterMass2 => e.velWaterMass2
  | .velWaterMass3 => e.velWaterMass3
  | .velWaterMass4 => e.velWaterMass4
  | .refLayerStart => e.refLayerStart
  | .refLayerEnd => e.refLayerEnd
  | .refLayerStatus => e.refLayerStatus
  | .tofpHour => e.tofpHour
  | .tofpMin => e.tofpMin
  | .tofpSec => e.tofpSec
  | .tofpErr => e.tofpErr
  | .bitResult => e.bitResult
  | .speedOfSound => e.speedOfSound
  | .temperature => e.temperature
  | .salinity => e.salinity
  | .depth => e.depth
  | .pitch => e.pitch
  | .roll => e.roll
  | .heading => e.heading
  | .dmgBottomE => e.dmgBottomE
  | .dmgBottomN => e.dmgBottomN
  | .dmgBottomUp => e.dmgBottomUp
  | .dmgBottomErr => e.dmgBottomErr
  | .dmgWaterE => e.dmgWaterE
  | .dmgWaterN => e.dmgWaterN
  | .dmgWaterUp => e.dmgWaterUp
  | .dmgWaterErr => e.dmgWaterErr
  | .checksum => e.checksum

/-- The ensemble after one register is written. -/
def ensSet (e : Ensemble) : (f : Field) → Option (BitVec (fieldWidth f)) → Ensemble
  | .id, v => ({ e with id := v } : Ensemble)
  | .format, v => ({ e with format := v } : Ensemble)
  | .byteCount, v => ({ e with byteCount := v } : Ensemble)
  | .systemConfig, v => ({ e with systemConfig := v } : Ensemble)
  | .velBottomX, v => ({ e with velBottomX := v } : Ensemble)
  | .velBottomY, v => ({ e with velBottomY := v } : Ensemble)
  | .velBottomZ, v => ({ e with velBottomZ := v } : Ensemble)
  | .velBottomE, v => ({ e with velBottomE := v } : Ensemble)
  | .rangeBeam1, v => ({ e with rangeBeam1 := v } : Ensemble)
  | .rangeBeam2, v => ({ e with rangeBeam2 := v } : Ensemble)
  | .rangeBeam3, v => ({ e with rangeBeam3 := v } : Ensemble)
  | .rangeBeam4, v => ({ e with rangeBeam4 := v } : Ensemble)
  | .bottomStatus, v => ({ e with bottomStatus := v } : Ensemble)
  | .velWaterMass1, v => ({ e with velWaterMass1 := v } : Ensemble)
  | .velWaterMass2, v => ({ e with velWaterMass2 := v } : Ensemble)
  | .velWaterMass3, v => ({ e with velWaterMass3 := v } : Ensemble)
  | .velWaterMass4, v => ({ e with velWaterMass4 := v } : Ensemble)
  | .refLayerStart, v => ({ e with refLayerStart := v } : Ensemble)
  | .refLayerEnd, v => ({ e with refLayerEnd := v } : Ensemble)
  | .refLayerStatus, v => ({ e with refLayerStatus := v } : Ensemble)
  | .tofpHour, v => ({ e with tofpHour := v } : Ensemble)
  | .tofpMin, v => ({ e with tofpMin := v } : Ensemble)
  | .tofpSec, v => ({ e with tofpSec := v } : Ensemble)
  | .tofpErr, v => ({ e with tofpErr := v } : Ensemble)
  | .bitResult, v => ({ e with bitResult := v } : Ensemble)
  | .speedOfSound, v => ({ e with speedOfSound := v } : Ensemble)
  | .temperature, v => ({ e with temperature := v } : Ensemble)
  | .salinity, v => ({ e with salinity := v } : Ensemble)
  | .depth, v => ({ e with depth := v } : Ensemble)
  | .pitch, v => ({ e with pitch := v } : Ensemble)
  | .roll, v => ({ e with roll := v } : Ensemble)
  | .heading, v => ({ e with heading := v } : Ensemble)
  | .dmgBottomE, v => ({ e with dmgBottomE := v } : Ensemble)
  | .dmgBottomN, v => ({ e with dmgBottomN := v } : Ensemble)
  | .dmgBottomUp, v => ({ e with dmgBottomUp := v } : Ensemble)
  | .dmgBottomErr, v => ({ e with dmgBottomErr := v } : Ensemble)
  | .dmgWaterE, v => ({ e with dmgWaterE := v } : Ensemble)
  | .dmgWaterN, v => ({ e with dmgWaterN := v } : Ensemble)
  | .dmgWaterUp, v => ({ e with dmgWaterUp := v } : Ensemble)
  | .dmgWaterErr, v => ({ e with dmgWaterErr := v } : Ensemble)
  | .checksum, v => ({ e with checksum := v } : Ensemble)

/-- The extract law of one stage (R141): the pattern of a field, from a frame. -/
def extractField (frame : Memory) (f : Field) : Option (BitVec (fieldWidth f)) :=
  memRead frame (fieldOffset f) (fieldBytes f)

/-- The 41 extractions of DECODEFN (R140), written into an ensemble one by one; no value if a frame
byte has none. -/
def extractInto (frame : Memory) : List Field → Ensemble → Option Ensemble
  | [], e => some e
  | f :: rest, e =>
    match extractField frame f with
    | some v => extractInto frame rest (ensSet e f (some v))
    | none => none

/-- DECODEFN on a frame held in a memory (R140). -/
def extractAll (frame : Memory) : Option Ensemble :=
  extractInto frame allFields Ensemble.unwritten

/-- ext_k of R186: zero extension for u8 and u16, sign extension for s16, identity for u32 (R142). -/
def extendField (f : Field) (v : BitVec (fieldWidth f)) :
    BitVec (delta% Config.wFdata) :=
  match fieldType f with
  | .s16 => sext _ v
  | .u8 | .u16 | .u32 => zext _ v

/-- The value of a field (R142): signed_16 of the pattern for s16, else the unsigned number. -/
def fieldValue (f : Field) (v : BitVec (fieldWidth f)) : Int :=
  match fieldType f with
  | .s16 => v.toInt
  | .u8 | .u16 | .u32 => v.toNat

/-- `w[7:0] <- b`, the high byte kept (R122, R125). -/
def withLow (w : BitVec 16) (b : Byte) : BitVec 16 := w.extractLsb' 8 8 ++ b

/-- `w[15:8] <- b`, the low byte kept (R123, R126). -/
def withHigh (w : BitVec 16) (b : Byte) : BitVec 16 := b ++ w.extractLsb' 0 8

/-- A field-extract stage (R141, R145 to R185): ENS[k] <- the pattern, and nothing else. -/
def runStage (f : Field) (s : State) : Result :=
  match extractField s.frame f with
  | some v => .next { s with ens := ensSet s.ens f (some v) }
  | none => .fault (.frameUnwritten (fieldOffset f))

end Sys2Proof.Machine
end

