-- ==== Sys2Proof/Machine/Flags.lean ====
section
/-! DEFINITION. The four flags (`10_state.md` rule R34), functions of ST and STATUS without state of
their own, the status word (`30_encoding.md` rule R84), and the two read ports of the caller host. -/

namespace Sys2Proof.Machine

/-- The 3-bit code of an outcome (R210). -/
def OutcomeCode.code : OutcomeCode → BitVec (delta% Config.wStatus)
  | .success => 0
  | .portUnresponsive => 1
  | .streamTruncated => 2
  | .frameNotFound => 3
  | .checksumMismatch => 4
  | .unsupportedFormat => 5

/-- DONE = (ST == DONE) (R34). -/
def flagDone (s : State) : Bool := decide (s.st = .done)

/-- BUSY = (ST != IDLE) and (ST != DONE) (R34). -/
def flagBusy (s : State) : Bool := decide (s.st ≠ .idle) && decide (s.st ≠ .done)

/-- RXREQ = (ST == WAITRX) (R34). -/
def flagRxreq (s : State) : Bool := decide (s.st = .waitrx)

/-- ENS_VALID = (ST == DONE) and (STATUS == 0) (R34). -/
def flagEnsValid (s : State) : Bool := decide (s.st = .done) && decide (s.status = some .success)

/-- RDSTAT's answer (R195): STATUS carries no value when DONE == 0 (U3). -/
def statusAnswer (s : State) : StatusAnswer where
  done := flagDone s
  busy := flagBusy s
  rxreq := flagRxreq s
  ensValid := flagEnsValid s
  status := if flagDone s then s.status else none

/-- Bits 7 to 3 of the status word (R84): the four flags and the constant 0. -/
def statusHigh (a : StatusAnswer) : BitVec 5 :=
  BitVec.ofBool a.done ++ BitVec.ofBool a.busy ++ BitVec.ofBool a.rxreq ++
    BitVec.ofBool a.ensValid ++ 0#1

/-- The whole status word (R84); no value when its bits 2 to 0 have none. -/
def statusWord (a : StatusAnswer) : Option (BitVec 8) :=
  a.status.map fun o => statusHigh a ++ o.code

/-- RDFLD's answer (R186): FDATA when ENS_VALID = 1 and k selects a field, else no value (R187). -/
def fieldAnswer (k : BitVec (delta% Config.wFsel)) (s : State) :
    Option (BitVec (delta% Config.wFdata)) :=
  if flagEnsValid s then
    match fieldOfSelector k with
    | some f => (ensGet s.ens f).map (extendField f)
    | none => none
  else none

end Sys2Proof.Machine
end

