-- ==== Sys2Proof/Machine/Caller.lean ====
section
/-! DEFINITION. The caller host's operations (format HOST): NOP, START, RDSTAT, RDFLD
(`43_acquisition.md` rules R190 to R192, R195, R196; `42_field_decoder.md` rules R186, R187). -/

namespace Sys2Proof.Machine

/-- NOP has no effect in any state (R196). -/
def execNop (s : State) : Result := .next s

/-- START nf (R190): accepted in IDLE and DONE, it re-initialises the block and ends the cycle with
UnsupportedFormat (R191) or requests the transport (R192); elsewhere it has no effect (R196). -/
def execStart (nf : BitVec (delta% Config.wNumformat)) (s : State) : Result :=
  if s.st = .idle ∨ s.st = .done then
    let t := s.reinit nf
    if nf = Config.numformatPd5 then
      .next (({ t with st := .waitrx } : State).emit (.rxRequest Config.reqLen))
    else .next (t.raise .unsupportedFormat)
  else .next s

/-- RDSTAT answers the status word and changes nothing (R195). -/
def execRdstat (s : State) : Result := .next (s.emit (.status (statusAnswer s)))

/-- RDFLD k answers one field, or valid = 0, and changes nothing (R186, R187). -/
def execRdfld (k : BitVec (delta% Config.wFsel)) (s : State) : Result :=
  .next (s.emit (.field (fieldAnswer k s)))

end Sys2Proof.Machine
end

