-- ==== Sys2Proof/Machine/Capture.lean ====
section
/-! DEFINITION. Frame capture and the checksum (format STEP, `41_checksum.md` rules R122 to R127). -/

namespace Sys2Proof.Machine

/-- CAPT.LENLO (R122): frame byte 2, the low byte of the declared length. -/
def execCaptLenlo (s : State) : Result :=
  s.capture Config.lenOff Config.lenOff fun b t =>
    ({ t with len := withLow t.len b } : State).accumulate b

/-- CAPT.LENHI (R123): frame byte 3, the high byte of the declared length. -/
def execCaptLenhi (s : State) : Result :=
  s.capture (Config.lenOff + 1) (Config.lenOff + 1) fun b t =>
    ({ t with len := withHigh t.len b } : State).accumulate b

/-- CAPT.BODY (R124): one of frame bytes 4 to 85. -/
def execCaptBody (s : State) : Result :=
  s.capture (Config.lenOff + 2) (Config.ckOff - 1) fun b t => t.accumulate b

/-- CAPT.CKLO (R125): frame byte 86; SUM is not changed. -/
def execCaptCklo (s : State) : Result :=
  s.capture Config.ckOff Config.ckOff fun b t => { t with ckrx := withLow t.ckrx b }

/-- CAPT.CKHI (R126): frame byte 87; the frame is complete. -/
def execCaptCkhi (s : State) : Result :=
  s.capture (Config.ckOff + 1) (Config.ckOff + 1) fun b t =>
    { t with ckrx := withHigh t.ckrx b, st := .check }

/-- CHECK (R127): SUM and CKRX compared on all 16 bits. -/
def execCheck (s : State) : Result :=
  if s.st = .check then
    if s.sum = s.ckrx then .next { s with st := .decode } else .next (s.raise .checksumMismatch)
  else .fault .stepNotEnabled

end Sys2Proof.Machine
end

