-- ==== Sys2Proof/Machine/Decoder.lean ====
section
/-! DEFINITION. The field decoder: the DECODE step (format STEP, `42_field_decoder.md` rule R144) and
the 41 field-extract stages (format FX, rules R145 to R185). -/

namespace Sys2Proof.Machine

/-- DECODE (R144): all 41 stages in one step, then Success. -/
def execDecode (s : State) : Result :=
  if s.st = .decode then
    match extractAll s.frame with
    | some e => .next (({ s with ens := e } : State).raise .success)
    | none => .fault (.frameUnwritten 0)
  else .fault .stepNotEnabled

/-- FX.id (R145): ENS[0] <- FRAME[0]. -/
def execFxId (s : State) : Result := runStage .id s

/-- FX.format (R146): ENS[1] <- FRAME[1]. -/
def execFxFormat (s : State) : Result := runStage .format s

/-- FX.byteCount (R147): ENS[2] <- FRAME[2..3]. -/
def execFxByteCount (s : State) : Result := runStage .byteCount s

/-- FX.systemConfig (R148): ENS[3] <- FRAME[4]. -/
def execFxSystemConfig (s : State) : Result := runStage .systemConfig s

/-- FX.velBottomX (R149): ENS[4] <- FRAME[5..6]. -/
def execFxVelBottomX (s : State) : Result := runStage .velBottomX s

/-- FX.velBottomY (R150): ENS[5] <- FRAME[7..8]. -/
def execFxVelBottomY (s : State) : Result := runStage .velBottomY s

/-- FX.velBottomZ (R151): ENS[6] <- FRAME[9..10]. -/
def execFxVelBottomZ (s : State) : Result := runStage .velBottomZ s

/-- FX.velBottomE (R152): ENS[7] <- FRAME[11..12]. -/
def execFxVelBottomE (s : State) : Result := runStage .velBottomE s

/-- FX.rangeBeam1 (R153): ENS[8] <- FRAME[13..14]. -/
def execFxRangeBeam1 (s : State) : Result := runStage .rangeBeam1 s

/-- FX.rangeBeam2 (R154): ENS[9] <- FRAME[15..16]. -/
def execFxRangeBeam2 (s : State) : Result := runStage .rangeBeam2 s

/-- FX.rangeBeam3 (R155): ENS[10] <- FRAME[17..18]. -/
def execFxRangeBeam3 (s : State) : Result := runStage .rangeBeam3 s

/-- FX.rangeBeam4 (R156): ENS[11] <- FRAME[19..20]. -/
def execFxRangeBeam4 (s : State) : Result := runStage .rangeBeam4 s

/-- FX.bottomStatus (R157): ENS[12] <- FRAME[21]. -/
def execFxBottomStatus (s : State) : Result := runStage .bottomStatus s

/-- FX.velWaterMass1 (R158): ENS[13] <- FRAME[22..23]. -/
def execFxVelWaterMass1 (s : State) : Result := runStage .velWaterMass1 s

/-- FX.velWaterMass2 (R159): ENS[14] <- FRAME[24..25]. -/
def execFxVelWaterMass2 (s : State) : Result := runStage .velWaterMass2 s

/-- FX.velWaterMass3 (R160): ENS[15] <- FRAME[26..27]. -/
def execFxVelWaterMass3 (s : State) : Result := runStage .velWaterMass3 s

/-- FX.velWaterMass4 (R161): ENS[16] <- FRAME[28..29]. -/
def execFxVelWaterMass4 (s : State) : Result := runStage .velWaterMass4 s

/-- FX.refLayerStart (R162): ENS[17] <- FRAME[30..31]. -/
def execFxRefLayerStart (s : State) : Result := runStage .refLayerStart s

/-- FX.refLayerEnd (R163): ENS[18] <- FRAME[32..33]. -/
def execFxRefLayerEnd (s : State) : Result := runStage .refLayerEnd s

/-- FX.refLayerStatus (R164): ENS[19] <- FRAME[34]. -/
def execFxRefLayerStatus (s : State) : Result := runStage .refLayerStatus s

/-- FX.tofpHour (R165): ENS[20] <- FRAME[35]. -/
def execFxTofpHour (s : State) : Result := runStage .tofpHour s

/-- FX.tofpMin (R166): ENS[21] <- FRAME[36]. -/
def execFxTofpMin (s : State) : Result := runStage .tofpMin s

/-- FX.tofpSec (R167): ENS[22] <- FRAME[37]. -/
def execFxTofpSec (s : State) : Result := runStage .tofpSec s

/-- FX.tofpErr (R168): ENS[23] <- FRAME[38]. -/
def execFxTofpErr (s : State) : Result := runStage .tofpErr s

/-- FX.bitResult (R169): ENS[24] <- FRAME[39..40]. -/
def execFxBitResult (s : State) : Result := runStage .bitResult s

/-- FX.speedOfSound (R170): ENS[25] <- FRAME[41..42]. -/
def execFxSpeedOfSound (s : State) : Result := runStage .speedOfSound s

/-- FX.temperature (R171): ENS[26] <- FRAME[43..44]. -/
def execFxTemperature (s : State) : Result := runStage .temperature s

/-- FX.salinity (R172): ENS[27] <- FRAME[45]. -/
def execFxSalinity (s : State) : Result := runStage .salinity s

/-- FX.depth (R173): ENS[28] <- FRAME[46..47]. -/
def execFxDepth (s : State) : Result := runStage .depth s

/-- FX.pitch (R174): ENS[29] <- FRAME[48..49]. -/
def execFxPitch (s : State) : Result := runStage .pitch s

/-- FX.roll (R175): ENS[30] <- FRAME[50..51]. -/
def execFxRoll (s : State) : Result := runStage .roll s

/-- FX.heading (R176): ENS[31] <- FRAME[52..53]. -/
def execFxHeading (s : State) : Result := runStage .heading s

/-- FX.dmgBottomE (R177): ENS[32] <- FRAME[54..57]. -/
def execFxDmgBottomE (s : State) : Result := runStage .dmgBottomE s

/-- FX.dmgBottomN (R178): ENS[33] <- FRAME[58..61]. -/
def execFxDmgBottomN (s : State) : Result := runStage .dmgBottomN s

/-- FX.dmgBottomUp (R179): ENS[34] <- FRAME[62..65]. -/
def execFxDmgBottomUp (s : State) : Result := runStage .dmgBottomUp s

/-- FX.dmgBottomErr (R180): ENS[35] <- FRAME[66..69]. -/
def execFxDmgBottomErr (s : State) : Result := runStage .dmgBottomErr s

/-- FX.dmgWaterE (R181): ENS[36] <- FRAME[70..73]. -/
def execFxDmgWaterE (s : State) : Result := runStage .dmgWaterE s

/-- FX.dmgWaterN (R182): ENS[37] <- FRAME[74..77]. -/
def execFxDmgWaterN (s : State) : Result := runStage .dmgWaterN s

/-- FX.dmgWaterUp (R183): ENS[38] <- FRAME[78..81]. -/
def execFxDmgWaterUp (s : State) : Result := runStage .dmgWaterUp s

/-- FX.dmgWaterErr (R184): ENS[39] <- FRAME[82..85]. -/
def execFxDmgWaterErr (s : State) : Result := runStage .dmgWaterErr s

/-- FX.checksum (R185): ENS[40] <- FRAME[86..87]. -/
def execFxChecksum (s : State) : Result := runStage .checksum s

end Sys2Proof.Machine
end

