-- ==== Sys2Proof/Machine/Pure.lean ====
section
/-! DEFINITION. The frame header match PD5 (format FRAME, `30_encoding.md` rule R81) and the four pure
functions of the document's contracts (format PURE): SYNC, VALIDATE, DECODEFN, ACQUIRE. As an
operation each answers its value and changes nothing. -/

namespace Sys2Proof.Machine

/-- Whether a marker pair starts at offset j and lies wholly inside the sequence (R81, R101). -/
def pairAt (buf : List Byte) (j : Nat) : Bool :=
  decide (buf[j]? = some Config.idByte) && decide (buf[j + 1]? = some Config.fmtByte)

/-- min(P) of R100: the first offset at which a marker pair starts. -/
def firstPair (buf : List Byte) : Option Nat := (List.range buf.length).find? (pairAt buf)

/-- SYNC (R100), in exact arithmetic. -/
def syncFn (buf : List Byte) : SyncResult :=
  match firstPair buf with
  | none => .frameNotFound
  | some i => if i + Config.frameLen > buf.length then .streamTruncated else .candidateFrame i

/-- The exact sum of a byte sequence, each byte a number 0 to 255. -/
def byteSum (bytes : List Byte) : Nat := (bytes.map BitVec.toNat).sum

/-- The computed checksum of R120: frame bytes 0 to 85 summed, then reduced modulo 65536. -/
def computedChecksum (f : List Byte) : BitVec (delta% Config.wSum) :=
  BitVec.ofNat _ (byteSum (f.take Config.sumLen))

/-- The transmitted checksum of R120, little-endian. -/
def transmittedChecksum (f : List Byte) : Option (BitVec 16) :=
  memRead (Memory.load f) Config.ckOff 2

/-- VALIDATE (R120). -/
def validateFn (f : List Byte) : ValidateResult :=
  if transmittedChecksum f = some (computedChecksum f) then .validatedFrame else .checksumMismatch

/-- DECODEFN (R140); a value for every sequence of at least 88 bytes. -/
def decodeFn (f : List Byte) : Option Ensemble := extractAll (Memory.load f)

/-- f = d[i .. i + 87] of R197. -/
def frameAt (d : List Byte) (i : Nat) : List Byte := (d.drop i).take Config.frameLen

/-- ACQUIRE (R197): the outcome, and the ensemble for Success alone. -/
def acquireFn (nf : BitVec (delta% Config.wNumformat)) (d : List Byte) :
    OutcomeCode × Option Ensemble :=
  if nf ≠ Config.numformatPd5 then (.unsupportedFormat, none)
  else if d.length = 0 then (.portUnresponsive, none)
  else if d.length < Config.reqLen then (.streamTruncated, none)
  else
    match syncFn d with
    | .frameNotFound => (.frameNotFound, none)
    | .streamTruncated => (.streamTruncated, none)
    | .candidateFrame i =>
      match validateFn (frameAt d i) with
      | .checksumMismatch => (.checksumMismatch, none)
      | .validatedFrame => (.success, decodeFn (frameAt d i))

/-- Whether the header match of R81 holds at offset i of BUF, with i + 1 <= BUFLEN - 1. -/
def execPd5 (i : BitVec (delta% Config.wPtr)) (s : State) : Result :=
  if i.toNat + 1 < s.buflen.toNat then
    match memRead s.buf i.toNat 2 with
    | some pair => .next (s.emit (.header (decide (pair &&& 0xFFFF#16 = Config.headerPair))))
    | none => .fault (.bufUnwritten i.toNat)
  else .next (s.emit (.header false))

/-- SYNC as an operation (R100): its value, no side effect. -/
def execSync (buf : List Byte) (s : State) : Result :=
  if bufferFits buf then .next (s.emit (.synced (syncFn buf))) else .refused (.badSize buf.length)

/-- VALIDATE as an operation (R120): its value, no side effect. -/
def execValidate (f : List Byte) (s : State) : Result :=
  if frameFits f then .next (s.emit (.validated (validateFn f))) else .refused (.badSize f.length)

/-- DECODEFN as an operation (R140): its value, no side effect. -/
def execDecodefn (f : List Byte) (s : State) : Result :=
  if frameFits f then .next (s.emit (.decoded (decodeFn f))) else .refused (.badSize f.length)

/-- ACQUIRE as an operation (R197): its value, no side effect. -/
def execAcquire (nf : BitVec (delta% Config.wNumformat)) (d : List Byte) (s : State) : Result :=
  if deliveryFits d then .next (s.emit (.acquired (acquireFn nf d).1 (acquireFn nf d).2))
  else .refused (.badSize d.length)

end Sys2Proof.Machine
end

