-- ==== Sys2Proof/Machine/Reset.lean ====
section
/-! DEFINITION. The reset input (format RESET, `70_reset_and_hazards.md` rule R240). -/

namespace Sys2Proof.Machine

/-- RESET (R240, R39): every register at the value of R39. NUMFORMAT is unspecified, a free value
drawn here (log entry 3); BUF and FRAME hold no value. The hosts' inputs and the event history are
outside the block and stay. -/
def execReset (s : State) : Result :=
  .next { State.reset with
    numformat := Config.freeNumformat s.draws,
    inputs := s.inputs, history := s.history, draws := s.draws + 1 }

end Sys2Proof.Machine
end

