-- ==== Sys2Proof/Machine/Scan.lean ====
section
/-! DEFINITION. The frame synchronizer's steps (format STEP, `40_synchronizer.md` rules R105 to R111).
Each is enabled only where its row of R87 selects it. -/

namespace Sys2Proof.Machine

/-- HUNT.END (R105): the buffer is exhausted and no 0x7D is pending. -/
def execHuntEnd (s : State) : Result :=
  if s.st = .hunt ∧ s.ptr = s.buflen then .next (s.raise .frameNotFound)
  else .fault .stepNotEnabled

/-- HUNT.ID (R107): an identification byte. -/
def execHuntId (s : State) : Result :=
  if s.st = .hunt then
    s.onByte fun b =>
      if b = Config.idByte then .next { s.advance with st := .ident } else .fault .stepNotEnabled
  else .fault .stepNotEnabled

/-- HUNT.SKIP (R106): not an identification byte. -/
def execHuntSkip (s : State) : Result :=
  if s.st = .hunt then
    s.onByte fun b => if b = Config.idByte then .fault .stepNotEnabled else .next s.advance
  else .fault .stepNotEnabled

/-- ID.END (R108): the buffer ends right after a 0x7D. -/
def execIdEnd (s : State) : Result :=
  if s.st = .ident ∧ s.ptr = s.buflen then .next (s.raise .frameNotFound)
  else .fault .stepNotEnabled

/-- The bounds check of R109, on 9-bit numbers (R245). -/
def frameRunsPast (off buflen : BitVec (delta% Config.wPtr)) : Bool :=
  decide (zext (delta% Config.wBounds) off + BitVec.ofNat _ Config.frameLen > zext _ buflen)

/-- The state ID.MATCH leaves (R109): OFF <- PTR - 1, PTR <- PTR + 1, then the bounds check.
CNT counts the two header bytes just captured (R27). -/
def matchFound (s : State) : State :=
  let t : State := { s with off := s.ptr - 1#_, ptr := s.ptr + 1#_ }
  if frameRunsPast t.off t.buflen then t.raise .streamTruncated
  else
    { t with
      frame := (t.frame.write 0 Config.idByte).write 1 Config.fmtByte,
      sum := zext _ Config.idByte + zext _ Config.fmtByte, cnt := 2#_, st := .capt }

/-- ID.MATCH (R109): the format byte follows, the first marker pair is found. -/
def execIdMatch (s : State) : Result :=
  if s.st = .ident then
    s.onByte fun b =>
      if b = Config.fmtByte then .next (matchFound s) else .fault .stepNotEnabled
  else .fault .stepNotEnabled

/-- ID.AGAIN (R110): a second identification byte; it may itself start a pair. -/
def execIdAgain (s : State) : Result :=
  if s.st = .ident then
    s.onByte fun b => if b = Config.idByte then .next s.advance else .fault .stepNotEnabled
  else .fault .stepNotEnabled

/-- ID.MISS (R111): neither 0x01 nor 0x7D follows. -/
def execIdMiss (s : State) : Result :=
  if s.st = .ident then
    s.onByte fun b =>
      if b = Config.fmtByte ∨ b = Config.idByte then .fault .stepNotEnabled
      else .next { s.advance with st := .hunt }
  else .fault .stepNotEnabled

end Sys2Proof.Machine
end

