-- ==== Sys2Proof/Machine/Transport.lean ====
section
/-! DEFINITION. The transport host's operation (format XPORT): DELIVER (`43_acquisition.md` rules R193,
R194). -/

namespace Sys2Proof.Machine

/-- DELIVER n: bytes (R193): accepted in WAITRX, where an empty and a short delivery end the cycle and
255 bytes fill BUF; elsewhere it has no effect (R194). More than 255 bytes is no move (U4). -/
def execDeliver (bytes : List Byte) (s : State) : Result :=
  if deliveryFits bytes then
    if s.st = .waitrx then
      if bytes.length = 0 then .next (s.raise .portUnresponsive)
      else if bytes.length < Config.reqLen then .next (s.raise .streamTruncated)
      else
        .next { s with
          buf := Memory.load bytes, buflen := BitVec.ofNat _ bytes.length, ptr := 0#_, st := .hunt }
    else .next s
  else .refused (.overlongDelivery bytes.length)

end Sys2Proof.Machine
end

