-- ==== Sys2Proof/Machine/Dispatch.lean ====
section
/-! DEFINITION. One arm per operation of `spec/opcode_table.json`, each a call of its meaning. -/

namespace Sys2Proof.Machine

def exec (i : Instr) (s : State) : Host.Outcome State Fault Refusal :=
  match i with
  | .nop => Sys2Proof.Machine.execNop s
  | .start nf => Sys2Proof.Machine.execStart nf s
  | .rdstat => Sys2Proof.Machine.execRdstat s
  | .rdfld k => Sys2Proof.Machine.execRdfld k s
  | .deliver bytes => Sys2Proof.Machine.execDeliver bytes s
  | .huntEnd => Sys2Proof.Machine.execHuntEnd s
  | .huntId => Sys2Proof.Machine.execHuntId s
  | .huntSkip => Sys2Proof.Machine.execHuntSkip s
  | .idEnd => Sys2Proof.Machine.execIdEnd s
  | .idMatch => Sys2Proof.Machine.execIdMatch s
  | .idAgain => Sys2Proof.Machine.execIdAgain s
  | .idMiss => Sys2Proof.Machine.execIdMiss s
  | .captLenlo => Sys2Proof.Machine.execCaptLenlo s
  | .captLenhi => Sys2Proof.Machine.execCaptLenhi s
  | .captBody => Sys2Proof.Machine.execCaptBody s
  | .captCklo => Sys2Proof.Machine.execCaptCklo s
  | .captCkhi => Sys2Proof.Machine.execCaptCkhi s
  | .check => Sys2Proof.Machine.execCheck s
  | .decode => Sys2Proof.Machine.execDecode s
  | .fxId => Sys2Proof.Machine.execFxId s
  | .fxFormat => Sys2Proof.Machine.execFxFormat s
  | .fxByteCount => Sys2Proof.Machine.execFxByteCount s
  | .fxSystemConfig => Sys2Proof.Machine.execFxSystemConfig s
  | .fxVelBottomX => Sys2Proof.Machine.execFxVelBottomX s
  | .fxVelBottomY => Sys2Proof.Machine.execFxVelBottomY s
  | .fxVelBottomZ => Sys2Proof.Machine.execFxVelBottomZ s
  | .fxVelBottomE => Sys2Proof.Machine.execFxVelBottomE s
  | .fxRangeBeam1 => Sys2Proof.Machine.execFxRangeBeam1 s
  | .fxRangeBeam2 => Sys2Proof.Machine.execFxRangeBeam2 s
  | .fxRangeBeam3 => Sys2Proof.Machine.execFxRangeBeam3 s
  | .fxRangeBeam4 => Sys2Proof.Machine.execFxRangeBeam4 s
  | .fxBottomStatus => Sys2Proof.Machine.execFxBottomStatus s
  | .fxVelWaterMass1 => Sys2Proof.Machine.execFxVelWaterMass1 s
  | .fxVelWaterMass2 => Sys2Proof.Machine.execFxVelWaterMass2 s
  | .fxVelWaterMass3 => Sys2Proof.Machine.execFxVelWaterMass3 s
  | .fxVelWaterMass4 => Sys2Proof.Machine.execFxVelWaterMass4 s
  | .fxRefLayerStart => Sys2Proof.Machine.execFxRefLayerStart s
  | .fxRefLayerEnd => Sys2Proof.Machine.execFxRefLayerEnd s
  | .fxRefLayerStatus => Sys2Proof.Machine.execFxRefLayerStatus s
  | .fxTofpHour => Sys2Proof.Machine.execFxTofpHour s
  | .fxTofpMin => Sys2Proof.Machine.execFxTofpMin s
  | .fxTofpSec => Sys2Proof.Machine.execFxTofpSec s
  | .fxTofpErr => Sys2Proof.Machine.execFxTofpErr s
  | .fxBitResult => Sys2Proof.Machine.execFxBitResult s
  | .fxSpeedOfSound => Sys2Proof.Machine.execFxSpeedOfSound s
  | .fxTemperature => Sys2Proof.Machine.execFxTemperature s
  | .fxSalinity => Sys2Proof.Machine.execFxSalinity s
  | .fxDepth => Sys2Proof.Machine.execFxDepth s
  | .fxPitch => Sys2Proof.Machine.execFxPitch s
  | .fxRoll => Sys2Proof.Machine.execFxRoll s
  | .fxHeading => Sys2Proof.Machine.execFxHeading s
  | .fxDmgBottomE => Sys2Proof.Machine.execFxDmgBottomE s
  | .fxDmgBottomN => Sys2Proof.Machine.execFxDmgBottomN s
  | .fxDmgBottomUp => Sys2Proof.Machine.execFxDmgBottomUp s
  | .fxDmgBottomErr => Sys2Proof.Machine.execFxDmgBottomErr s
  | .fxDmgWaterE => Sys2Proof.Machine.execFxDmgWaterE s
  | .fxDmgWaterN => Sys2Proof.Machine.execFxDmgWaterN s
  | .fxDmgWaterUp => Sys2Proof.Machine.execFxDmgWaterUp s
  | .fxDmgWaterErr => Sys2Proof.Machine.execFxDmgWaterErr s
  | .fxChecksum => Sys2Proof.Machine.execFxChecksum s
  | .pd5 offset => Sys2Proof.Machine.execPd5 offset s
  | .reset => Sys2Proof.Machine.execReset s
  | .sync buf => Sys2Proof.Machine.execSync buf s
  | .validate f => Sys2Proof.Machine.execValidate f s
  | .decodefn f => Sys2Proof.Machine.execDecodefn f s
  | .acquire nf d => Sys2Proof.Machine.execAcquire nf d s

end Sys2Proof.Machine
end

