-- ==== Sys2Proof/Machine/Fetch.lean ====
section
/-! DEFINITION. How a step finds its operation: the next input presented, and for the block's own step
the row of R87 that ST, PTR, BUFLEN, CNT and BUF[PTR] select. -/

namespace Sys2Proof.Machine

/-- What a step finds: an operation's signal, nothing to do, or a read that cannot be made. -/
inductive Fetched where
  /-- An operation is presented or selected. -/
  | signal (sig : Signal)
  /-- ST is IDLE, WAITRX or DONE and no host acts: no sequencer step is enabled (R87). -/
  | waiting
  /-- The look at BUF[PTR] is a read that no rule makes. -/
  | fault (f : Fault)
  deriving DecidableEq, Repr

/-- The look of a scan state, as a signal. -/
def lookSignal (s : State) (mk : Option Byte → Signal) : Fetched :=
  match s.look with
  | .ok look => .signal (mk look)
  | .error f => .fault f

/-- The sequencer step that the state selects (R87). -/
def selectStep (s : State) : Fetched :=
  match s.st with
  | .idle => .waiting
  | .waitrx => .waiting
  | .hunt => lookSignal s .hunt
  | .ident => lookSignal s .ident
  | .capt => .signal (.capt s.cnt)
  | .check => .signal .check
  | .decode => .signal .decode
  | .done => .waiting

/-- What the next step finds: the oldest input, or the block's own step where no host acts. -/
def State.fetch (s : State) : Fetched :=
  match s.inputs with
  | [] => selectStep s
  | .tick :: _ => selectStep s
  | .command w :: _ => .signal (.command w)
  | .delivery bytes :: _ => .signal (.delivery bytes)
  | .resetLine :: _ => .signal .resetLine
  | .stage fsel :: _ => .signal (.stage fsel)
  | .header pair i :: _ => .signal (.header pair i)
  | .call c :: _ => .signal (.call c)

/-- The state once the oldest input has been taken. -/
def State.consume (s : State) : State := { s with inputs := s.inputs.tail }

/-- Runs what a step found on the state whose oldest input has been taken. -/
def runFetched (s : State) : Fetched → Result
  | .waiting => .next s.consume
  | .fault f => .fault f
  | .signal sig =>
    match decode sig with
    | .ok i => exec i s.consume
    | .error e => .refused (.undecodable e)

/-- Places the operation of a table word where the next step finds it, with its operand bytes 0 (log
entry 11): a header pair in BUF[0..1], a command word on HCMD, a field selector over a frame of
zeros, a stream byte at BUF[0] in HUNT. -/
def placeTableWord (s : State) (nbits w : Nat) : State :=
  match signalOfTableWord nbits w with
  | none => s
  | some (.command c) => { s with inputs := .command c :: s.inputs }
  | some (.header pair i) =>
    { s with
      buf := (s.buf.write 0 (pair.extractLsb' 0 8)).write 1 (pair.extractLsb' 8 8), buflen := 2#_,
      inputs := .header pair i :: s.inputs }
  | some (.stage k) =>
    { s with
      frame := Memory.load (List.replicate Config.frameLen 0), inputs := .stage k :: s.inputs }
  | some (.hunt (some b)) =>
    { s with
      buf := s.buf.write 0 b, buflen := 1#_, ptr := 0#_, st := .hunt, inputs := .tick :: s.inputs }
  | some (.hunt none) => s
  | some (.delivery _) | some (.ident _) | some (.capt _) | some .check | some .decode => s
  | some .resetLine | some (.call _) => s

end Sys2Proof.Machine
end

