-- ==== Sys2Proof/Machine/Step.lean ====
section
/-! DEFINITION. One step of the machine, and the placing of a table word before it. -/

namespace Sys2Proof.Machine

/-- One step: one host operation, one reset, one sequencer step, or, where none of these is there,
a wait that changes nothing (R13, R87, R200). -/
def step (s : State) : Host.Outcome State Fault Refusal := runFetched s s.fetch

/-- `s` with the operation of a table word placed where `step` finds its next one. -/
def State.withFetchWord (s : State) (nbits w : Nat) : State := placeTableWord s nbits w

end Sys2Proof.Machine
end

