-- ==== Sys2Proof/Safety.lean ====
section
/-! DEFINITION. What a safe run is, in the terms the statements use: the inputs that the block's ports
can present, the block's own step, and the invariants of `10_state.md` rule R35. -/

namespace Sys2Proof.Machine

/-- The inputs a port of the block can present: a command word, a delivery of at most 255 bytes, the
reset input, or no host acting (R60, R83, R85, R240). -/
def Input.fromPort : Input → Bool
  | .command _ | .tick | .resetLine => true
  | .delivery bytes => deliveryFits bytes
  | .stage _ | .header _ _ | .call _ => false

/-- No host acts at the next step: the block takes its own sequencer step (R87). -/
def State.ownStep (s : State) : Prop := s.inputs = [] ∨ ∃ rest, s.inputs = .tick :: rest

/-- The next step finds and decodes the operation `i`. -/
def State.selects (s : State) (i : Instr) : Prop :=
  ∃ sig, s.fetch = .signal sig ∧ decode sig = .ok i

/-- Some ENS register is written (R35 item 6). -/
def Ensemble.someWritten (e : Ensemble) : Bool := allFields.any fun f => (ensGet e f).isSome

/-- Every ENS register is written (R35 item 6). -/
def Ensemble.allWritten (e : Ensemble) : Bool := allFields.all fun f => (ensGet e f).isSome

/-- The bytes FRAME[0..n-1], those that hold a value. -/
def frameBytes (frame : Memory) (n : Nat) : List Byte := (List.range n).filterMap frame.read

/-- The sum of FRAME[0..n-1] modulo 65536 (R35 item 3). -/
def frameSum (frame : Memory) (n : Nat) : BitVec 16 := BitVec.ofNat 16 (byteSum (frameBytes frame n))

/-- R35 items 3 and 4 for a frame of which CNT bytes are captured, with what LEN and CKRX hold
meanwhile (R28, R30). -/
structure State.Captured (s : State) : Prop where
  ptr_eq : s.ptr.toNat = s.off.toNat + s.cnt.toNat
  fits : s.off.toNat + Config.frameLen ≤ s.buflen.toNat
  copy : ∀ j < s.cnt.toNat, s.frame.read j = s.buf.read (s.off.toNat + j)
  id_byte : s.frame.read 0 = some Config.idByte
  fmt_byte : s.frame.read 1 = some Config.fmtByte
  sum_eq : s.sum = frameSum s.frame (min s.cnt.toNat Config.sumLen)
  len_low : 3 ≤ s.cnt.toNat → s.frame.read 2 = some (s.len.extractLsb' 0 8)
  len_high : 4 ≤ s.cnt.toNat → s.frame.read 3 = some (s.len.extractLsb' 8 8)
  ckrx_low : 87 ≤ s.cnt.toNat → s.frame.read 86 = some (s.ckrx.extractLsb' 0 8)
  ckrx_high : 88 ≤ s.cnt.toNat → s.frame.read 87 = some (s.ckrx.extractLsb' 8 8)

/-- The invariants of R35, with the canonical form of both memories, the value of every byte below
BUFLEN (R22), and inputs that only the block's ports present. -/
structure State.Inv (s : State) : Prop where
  buf_wf : s.buf.wf = true
  buf_within : s.buf.within Config.bufCap = true
  frame_wf : s.frame.wf = true
  frame_within : s.frame.within Config.frameLen = true
  ptr_le : s.ptr.toNat ≤ s.buflen.toNat
  buf_full : ∀ j < s.buflen.toNat, (s.buf.read j).isSome = true
  no_pair_before : s.st = .hunt ∨ s.st = .ident → ∀ j, j + 1 < s.ptr.toNat →
    ¬(s.buf.read j = some Config.idByte ∧ s.buf.read (j + 1) = some Config.fmtByte)
  ident_byte : s.st = .ident → 1 ≤ s.ptr.toNat ∧
    s.buf.read (s.ptr.toNat - 1) = some Config.idByte
  hunt_byte : s.st = .hunt → s.ptr.toNat = 0 ∨
    s.buf.read (s.ptr.toNat - 1) ≠ some Config.idByte
  capt : s.st = .capt → 2 ≤ s.cnt.toNat ∧ s.cnt.toNat ≤ 87 ∧ s.Captured
  full : s.st = .check ∨ s.st = .decode → s.cnt.toNat = 88 ∧ s.Captured
  decode_eq : s.st = .decode → s.sum = s.ckrx
  status_done : s.status ≠ none ↔ s.st = .done
  ens_some : s.ens.someWritten = true ↔ s.st = .done ∧ s.status = some .success
  ens_all : s.ens.allWritten = true ↔ s.st = .done ∧ s.status = some .success
  ports : ∀ x ∈ s.inputs, x.fromPort = true

end Sys2Proof.Machine
end

