-- ==== Sys2Proof/Certificates/Slice0/Obligations.lean ====
section
/-! DEFINITION. The statements for the provers. Rules and files named are those of `spec/`. -/

open Sys2Proof Sys2Proof.Machine

/-- A step runs the operation that is found and decoded (30_encoding.md R86, 30_encoding.md R87, log
entry 4). For every state: when the next step finds a signal that decodes to an operation i, the
step is exec of i on the same state with its oldest pending input taken. The queue of inputs is
the model's own (log entry 4). -/
def Obligations.StepRunsDecodedOperation : Prop :=
  ∀ (s : State) (sig : Signal) (i : Instr), s.fetch = .signal sig → decode sig = .ok i →
    step s = exec i { s with inputs := s.inputs.tail }

/-- What a host or the reset input presents is the operation the next step runs (30_encoding.md R83,
30_encoding.md R85, 20_memory.md R67, log entry 4). A pending command word runs the operation it
encodes (bits 15 to 14 select NOP, START, RDSTAT, RDFLD), a pending delivery of at most 255 bytes
runs DELIVER, the reset input runs RESET, each on the state with that input taken. The queue is
the model's own (log entry 4). -/
def Obligations.PresentedInputsRunTheirOperation : Prop :=
  ∀ (s : State) (rest : List Input) (k : BitVec 6) (a : BitVec 8) (bytes : List Byte),
    step { s with inputs := .command (commandWord 0b00#2 k a) :: rest } =
      exec .nop { s with inputs := rest } ∧
    step { s with inputs := .command (commandWord 0b01#2 k a) :: rest } =
      exec (.start a) { s with inputs := rest } ∧
    step { s with inputs := .command (commandWord 0b10#2 k a) :: rest } =
      exec .rdstat { s with inputs := rest } ∧
    step { s with inputs := .command (commandWord 0b11#2 k a) :: rest } =
      exec (.rdfld k) { s with inputs := rest } ∧
    (bytes.length ≤ 255 → step { s with inputs := .delivery bytes :: rest } =
      exec (.deliver bytes) { s with inputs := rest }) ∧
    step { s with inputs := .resetLine :: rest } = exec .reset { s with inputs := rest }

/-- In IDLE, WAITRX and DONE the block by itself changes nothing (30_encoding.md R87,
43_acquisition.md R200, log entry 7). When no host acts and ST is IDLE, WAITRX or DONE, a step
leaves every register as it is. That a step with nothing enabled is a wait and not a stop is the
model's choice (log entry 7). -/
def Obligations.StatesWithoutAStepOnlyWait : Prop :=
  ∀ s : State, s.ownStep → s.st = .idle ∨ s.st = .waitrx ∨ s.st = .done →
    step s = .next { s with inputs := s.inputs.tail }

/-- Which sequencer step is selected, by ST, PTR, BUFLEN, CNT and the input byte (R87). The table of
R87, row by row: in HUNT, HUNT.END when PTR == BUFLEN, else HUNT.ID on 0x7D and HUNT.SKIP on any
other byte; in ID, ID.END, ID.MATCH on 0x01, ID.AGAIN on 0x7D, ID.MISS else; in CAPT by CNT; in
CHECK CHECK; in DECODE DECODE; in IDLE, WAITRX, DONE no step. -/
def Obligations.SequencerStepSelection : Prop :=
  ∀ s : State, s.ownStep →
    (s.st = .hunt → s.ptr = s.buflen → s.selects .huntEnd) ∧
    (∀ b, s.st = .hunt → s.ptr.toNat < s.buflen.toNat → s.buf.read s.ptr.toNat = some b →
      s.selects (if b = 0x7D#8 then .huntId else .huntSkip)) ∧
    (s.st = .ident → s.ptr = s.buflen → s.selects .idEnd) ∧
    (∀ b, s.st = .ident → s.ptr.toNat < s.buflen.toNat → s.buf.read s.ptr.toNat = some b →
      s.selects (if b = 0x01#8 then .idMatch else if b = 0x7D#8 then .idAgain else .idMiss)) ∧
    (s.st = .capt → s.cnt.toNat = 2 → s.selects .captLenlo) ∧
    (s.st = .capt → s.cnt.toNat = 3 → s.selects .captLenhi) ∧
    (s.st = .capt → 4 ≤ s.cnt.toNat → s.cnt.toNat ≤ 85 → s.selects .captBody) ∧
    (s.st = .capt → s.cnt.toNat = 86 → s.selects .captCklo) ∧
    (s.st = .capt → s.cnt.toNat = 87 → s.selects .captCkhi) ∧
    (s.st = .check → s.selects .check) ∧
    (s.st = .decode → s.selects .decode) ∧
    (s.st = .idle ∨ s.st = .waitrx ∨ s.st = .done → s.fetch = .waiting)

/-- Each of the 65536 command words decodes by its top two bits; ignored bits change nothing
(30_encoding.md R83, 93_implementation_defined.md U7). For all 14 low bits: CMD 00 is NOP, 01 is
START of ARG [7:0], 10 is RDSTAT, 11 is RDFLD of FSEL [13:8]; and every 16-bit word is of one of
these four forms. -/
def Obligations.EveryCommandWordDecodes : Prop :=
  (∀ (k : BitVec 6) (a : BitVec 8),
    decode (.command (commandWord 0b00#2 k a)) = .ok .nop ∧
    decode (.command (commandWord 0b01#2 k a)) = .ok (.start a) ∧
    decode (.command (commandWord 0b10#2 k a)) = .ok .rdstat ∧
    decode (.command (commandWord 0b11#2 k a)) = .ok (.rdfld k)) ∧
  (∀ w : BitVec 16, ∃ (c : BitVec 2) (k : BitVec 6) (a : BitVec 8), w = commandWord c k a)

/-- Decoding what the encoder writes gives the instruction back, for every well-formed instruction
(30_encoding.md R83, 30_encoding.md R85, 30_encoding.md R87, 30_encoding.md R88, 30_encoding.md
R81). For every well-formed instruction of all seven formats, with every operand at every value
its encoding admits, decode (encode i) is i. -/
def Obligations.DecodeOfEncodeIsTheInstruction : Prop :=
  ∀ i : Instr, i.wellFormed = true → decode (encode i) = .ok i

/-- Words written out in the spec decode to the operations it gives for them, and words it gives none
are refused (95_test_vectors.md section 6, 30_encoding.md R81, 30_encoding.md R83, 30_encoding.md
R87, 30_encoding.md R88, 30_encoding.md R89, log entry 6). Command words of the test vectors (with
ignored bits set), one stream byte per scan row of R87, CNT values at the edges of the CAPT rows,
and selectors 0, 31 and 40 decode to their operations; the reserved selectors 41 and 63 of R88 are
refused. The frame header of R81, 0x017D as a little-endian number, selects PD5, and another pair,
0x007D, which R89 calls no frame, is refused: that a header pair is a signal of its own, and that
what selects no operation is refused by name, is the model's choice (log entry 6). -/
def Obligations.SpecWordsDecode : Prop :=
  decode (.command 0x3FFF#16) = .ok .nop ∧
  decode (.command 0x4005#16) = .ok (.start 5#8) ∧
  decode (.command 0x4105#16) = .ok (.start 5#8) ∧
  decode (.command 0x7F05#16) = .ok (.start 5#8) ∧
  decode (.command 0xBFFF#16) = .ok .rdstat ∧
  decode (.command 0xC4FF#16) = .ok (.rdfld 4#6) ∧
  decode (.command 0xFF00#16) = .ok (.rdfld 63#6) ∧
  decode (.hunt (some 0x7D#8)) = .ok .huntId ∧
  decode (.hunt (some 0x01#8)) = .ok .huntSkip ∧
  decode (.ident (some 0x01#8)) = .ok .idMatch ∧
  decode (.ident (some 0x7D#8)) = .ok .idAgain ∧
  decode (.ident (some 0x00#8)) = .ok .idMiss ∧
  decode (.capt 4#7) = .ok .captBody ∧
  decode (.capt 85#7) = .ok .captBody ∧
  decode (.capt 86#7) = .ok .captCklo ∧
  decode (.stage 0b000000#6) = .ok .fxId ∧
  decode (.stage 0b011111#6) = .ok .fxHeading ∧
  decode (.stage 0b101000#6) = .ok .fxChecksum ∧
  decode (.stage 41#6) = .error (.reservedSelector 41#6) ∧
  decode (.stage 63#6) = .error (.reservedSelector 63#6) ∧
  decode (.header 0x017D#16 0#8) = .ok (.pd5 0#8) ∧
  decode (.header 0x007D#16 0#8) = .error (.notAFrameHeader 0x007D#16)

/-- Every frame offset from 0 to 87 belongs to exactly one field, and no field reads beyond
(30_encoding.md R80, 42_field_decoder.md R141). For every offset below 88 exactly one of the 41
fields covers it, and every field ends at or before offset 87. -/
def Obligations.FieldsTileTheFrame : Prop :=
  (∀ j : Fin 88, ∃ f, (fieldOffset f ≤ j.val ∧ j.val < fieldOffset f + fieldBytes f) ∧
    ∀ g, fieldOffset g ≤ j.val → j.val < fieldOffset g + fieldBytes g → g = f) ∧
  (∀ f, fieldOffset f + fieldBytes f ≤ 88)

/-- FSEL k selects the k-th field of the table for k up to 40; 41 to 63 select nothing (R88). A
selector below 41 selects the field before which exactly k fields of the table lie, and the stage
operation of that field; a selector from 41 to 63 selects no field and no stage. -/
def Obligations.SelectorsNumberTheFields : Prop :=
  ∀ k : BitVec 6,
    (k.toNat ≤ 40 → ∃ f, fieldOfSelector k = some f ∧ decode (.stage k) = .ok (stageOf f) ∧
      (allFields.filter fun g => fieldOffset g < fieldOffset f).length = k.toNat) ∧
    (41 ≤ k.toNat → fieldOfSelector k = none ∧ decode (.stage k) = .error (.reservedSelector k))

/-- The state after reset holds the values the spec gives (R39). After reset ST = IDLE, BUFLEN = PTR =
OFF = CNT = 0, LEN = SUM = CKRX = 0, STATUS and every ENS[k] are unwritten, and the four flags are
0. Nothing is said of NUMFORMAT, BUF and FRAME, which the rule leaves unspecified. -/
def Obligations.ResetStateIsAsStated : Prop :=
  State.reset.st = .idle ∧ State.reset.buflen = 0#8 ∧ State.reset.ptr = 0#8 ∧
  State.reset.off = 0#8 ∧ State.reset.cnt = 0#7 ∧ State.reset.len = 0#16 ∧
  State.reset.sum = 0#16 ∧ State.reset.ckrx = 0#16 ∧ State.reset.status = none ∧
  (∀ f, ensGet State.reset.ens f = none) ∧
  flagDone State.reset = false ∧ flagBusy State.reset = false ∧
  flagRxreq State.reset = false ∧ flagEnsValid State.reset = false

/-- RESET puts the block in its reset state from any state (70_reset_and_hazards.md R240, 10_state.md
R39, log entry 17). In every state RESET answers a next state with ST = IDLE, all counters and
working registers 0, STATUS and every ENS[k] unwritten and all four flags 0 (R240, R39). That the
pending inputs and the event history stay is the model's choice (log entry 17): they stand outside
the block, of which alone R240 speaks. -/
def Obligations.ResetInputAbandonsTheCycle : Prop :=
  ∀ s : State, ∃ t, exec .reset s = .next t ∧
    t.st = .idle ∧ t.buflen = 0#8 ∧ t.ptr = 0#8 ∧ t.off = 0#8 ∧ t.cnt = 0#7 ∧
    t.len = 0#16 ∧ t.sum = 0#16 ∧ t.ckrx = 0#16 ∧ t.status = none ∧
    (∀ f, ensGet t.ens f = none) ∧
    flagDone t = false ∧ flagBusy t = false ∧ flagRxreq t = false ∧ flagEnsValid t = false ∧
    t.inputs = s.inputs ∧ t.history = s.history

/-- NOP never has an effect; START has none while a cycle runs (R196). In every state NOP leaves the
whole state as it is; in WAITRX, HUNT, ID, CAPT, CHECK and DECODE so does START with any operand. -/
def Obligations.NopAndBusyStartHaveNoEffect : Prop :=
  ∀ (s : State) (nf : BitVec 8),
    exec .nop s = .next s ∧
    (s.st = .waitrx ∨ s.st = .hunt ∨ s.st = .ident ∨ s.st = .capt ∨ s.st = .check ∨
      s.st = .decode → exec (.start nf) s = .next s)

/-- An accepted START with numFormat other than 5 ends the cycle at once with code 5 (R191, R36). From
IDLE or DONE, START nf with nf != 5 re-initialises the block and answers the state with STATUS =
UnsupportedFormat and ST = DONE; BUF, FRAME, the history (no RxRequest) and the pending inputs are
unchanged. -/
def Obligations.StartWithOtherFormatFails : Prop :=
  ∀ (s : State) (nf : BitVec 8), s.st = .idle ∨ s.st = .done → nf ≠ 5#8 →
    exec (.start nf) s = .next { s with
        numformat := nf, buflen := 0#8, ptr := 0#8, off := 0#8, cnt := 0#7, len := 0#16,
        sum := 0#16, ckrx := 0#16, ens := Ensemble.unwritten,
        status := some .unsupportedFormat, st := .done }

/-- An accepted START 5 re-initialises the block and requests 255 bytes once (R192, R36). From IDLE or
DONE, START 5 re-initialises the block, records exactly one RxRequest(255) and leaves ST = WAITRX,
so RXREQ = 1 and BUSY = 1; BUF, FRAME and the pending inputs are unchanged. -/
def Obligations.StartWithFormatFiveRequests : Prop :=
  ∀ s : State, s.st = .idle ∨ s.st = .done →
    ∃ t, exec (.start 5#8) s = .next t ∧
      t = { s with
        numformat := 5#8, buflen := 0#8, ptr := 0#8, off := 0#8, cnt := 0#7, len := 0#16,
        sum := 0#16, ckrx := 0#16, ens := Ensemble.unwritten,
        status := none, st := .waitrx, history := s.history ++ [.rxRequest 255] } ∧
      flagBusy t = true ∧ flagRxreq t = true

/-- DELIVER in WAITRX: empty gives code 1, short gives code 2, 255 bytes fill BUF (R193). In WAITRX a
delivery of 0 bytes ends the cycle with PortUnresponsive and one of 1 to 254 bytes with
StreamTruncated, BUF and BUFLEN unwritten; 255 bytes are stored in BUF[0..254] in order, BUFLEN =
255, PTR = 0, ST = HUNT. Nothing else changes. -/
def Obligations.DeliverInWaitrx : Prop :=
  ∀ (s : State) (d : List Byte), s.st = .waitrx →
    (d.length = 0 → exec (.deliver d) s =
      .next { s with status := some .portUnresponsive, st := .done }) ∧
    (1 ≤ d.length → d.length ≤ 254 → exec (.deliver d) s =
      .next { s with status := some .streamTruncated, st := .done }) ∧
    (d.length = 255 → ∃ t, exec (.deliver d) s = .next t ∧
      (∀ j, t.buf.read j = d[j]?) ∧
      { t with buf := s.buf } = { s with buflen := 255#8, ptr := 0#8, st := .hunt })

/-- A delivery with no request outstanding changes nothing (R194). In every state other than WAITRX a
delivery of 0 to 255 bytes leaves the whole state as it is. -/
def Obligations.DeliverElsewhereIsIgnored : Prop :=
  ∀ (s : State) (d : List Byte), s.st ≠ .waitrx → d.length ≤ 255 → exec (.deliver d) s = .next s

/-- Byte sequences of a size the operation does not have are refused by name
(93_implementation_defined.md U4, 40_synchronizer.md R100, 41_checksum.md R120,
42_field_decoder.md R140, 43_acquisition.md R197, 30_encoding.md R85, log entry 10). A delivery of
more than 255 bytes is refused, as U4 treats it (the move does not exist). That SYNC (R100) and
ACQUIRE (R197, whose delivery is that of R85) on more than 255 bytes, and VALIDATE (R120) and
DECODEFN (R140) on a sequence that is not 88 bytes long, are refused by name is the model's choice
(log entry 10, deduced): those rules give the sizes and no result on another. -/
def Obligations.WrongSizesAreRefused : Prop :=
  ∀ (s : State) (l : List Byte) (nf : BitVec 8),
    (255 < l.length → exec (.deliver l) s = .refused (.overlongDelivery l.length) ∧
      exec (.sync l) s = .refused (.badSize l.length) ∧
      exec (.acquire nf l) s = .refused (.badSize l.length)) ∧
    (l.length ≠ 88 → exec (.validate l) s = .refused (.badSize l.length) ∧
      exec (.decodefn l) s = .refused (.badSize l.length))

/-- RDSTAT answers the flags and STATUS and changes nothing else (43_acquisition.md R195,
30_encoding.md R84, log entry 5). In every state RDSTAT answers (DONE, BUSY, RXREQ, ENS_VALID, and
STATUS when DONE = 1) and changes no register; the status word is 0x90 after Success and 0x80 + c
after a failure with code c; its upper bits are 0b00000 in IDLE, 0b01100 in WAITRX and 0b01000
while scanning (R195, R84). That the answer is recorded as an event of the history is the model's
choice (log entry 5): R195 says that no state changes, and R38 names RxRequest events only. -/
def Obligations.RdstatAnswersTheStatusWord : Prop :=
  ∀ s : State,
    exec .rdstat s = .next { s with history := s.history ++ [.status (statusAnswer s)] } ∧
    statusAnswer s = { done := s.st = .done, busy := s.st ≠ .idle ∧ s.st ≠ .done,
                       rxreq := s.st = .waitrx,
                       ensValid := s.st = .done ∧ s.status = some .success,
                       status := if s.st = .done then s.status else none } ∧
    (s.st = .done → ∀ o, s.status = some o → statusWord (statusAnswer s) = some (match o with
      | .success => 0x90#8
      | .portUnresponsive => 0x81#8
      | .streamTruncated => 0x82#8
      | .frameNotFound => 0x83#8
      | .checksumMismatch => 0x84#8
      | .unsupportedFormat => 0x85#8)) ∧
    (s.st ≠ .done → statusWord (statusAnswer s) = none ∧
      statusHigh (statusAnswer s) = if s.st = .idle then 0b00000#5
        else if s.st = .waitrx then 0b01100#5 else 0b01000#5)

/-- RDFLD k answers ENS[k] extended to 32 bits and changes no register (42_field_decoder.md R186,
42_field_decoder.md R142, log entry 5). When ENS_VALID = 1, k selects field f and ENS[k] holds v,
RDFLD k answers sext_32 v for an s16 field and zext_32 v for any other, and changes no register
(R186, R142). That the answer is recorded as an event of the history is the model's choice (log
entry 5). Under ENS_VALID = 1 every ENS[k] holds a value (R35 item 6, which the statement
EveryStepKeepsTheInvariants keeps), so no reachable case is left out. -/
def Obligations.RdfldAnswersOneField : Prop :=
  ∀ (s : State) (k : BitVec 6) (f : Field) (v : BitVec (fieldWidth f)),
    s.st = .done → s.status = some .success → fieldOfSelector k = some f →
    ensGet s.ens f = some v →
    exec (.rdfld k) s = .next { s with history := s.history ++ [.field (some
      (if fieldType f = .s16 then sext 32 v else zext 32 v))] }

/-- RDFLD answers valid = 0 and no value when there is nothing to read (42_field_decoder.md R187, log
entry 5). When ENS_VALID = 0, or for a reserved selector 41 to 63, RDFLD answers valid = 0 with no
value and changes no register (R187). That the answer is recorded as an event of the history is
the model's choice (log entry 5). -/
def Obligations.RdfldWithNothingToRead : Prop :=
  ∀ (s : State) (k : BitVec 6),
    ¬(s.st = .done ∧ s.status = some .success) ∨ 41 ≤ k.toNat →
    exec (.rdfld k) s = .next { s with history := s.history ++ [.field none] }

/-- The 32-bit read port shows the value of every field (R142). The value of an s16 field is signed_16
of its pattern and of any other field the pattern as an unsigned number; FDATA read as two's
complement equals the value for fields narrower than 32 bits, and read as unsigned equals it for
u32. -/
def Obligations.ReadPortShowsTheValue : Prop :=
  ∀ (f : Field) (v : BitVec (fieldWidth f)),
    (fieldType f = .s16 → fieldValue f v =
      if v.toNat < 0x8000 then (v.toNat : Int) else (v.toNat : Int) - 65536) ∧
    (fieldType f ≠ .s16 → fieldValue f v = v.toNat) ∧
    (fieldWidth f < 32 → (extendField f v).toInt = fieldValue f v) ∧
    (fieldWidth f = 32 → ((extendField f v).toNat : Int) = fieldValue f v) ∧
    extendField f v = if fieldType f = .s16 then sext 32 v else zext 32 v

/-- The three steps of HUNT (R105, R106, R107). HUNT.END raises FrameNotFound when PTR == BUFLEN;
HUNT.SKIP, on a byte other than 0x7D, only adds 1 to PTR; HUNT.ID, on 0x7D, adds 1 to PTR and
enters ID. Nothing else changes. -/
def Obligations.HuntSteps : Prop :=
  ∀ (s : State) (b : Byte), s.st = .hunt →
    (s.ptr = s.buflen →
      exec .huntEnd s = .next { s with status := some .frameNotFound, st := .done }) ∧
    (s.ptr.toNat < s.buflen.toNat → s.buf.read s.ptr.toNat = some b → b ≠ 0x7D#8 →
      exec .huntSkip s = .next { s with ptr := s.ptr + 1#8 }) ∧
    (s.ptr.toNat < s.buflen.toNat → s.buf.read s.ptr.toNat = some b → b = 0x7D#8 →
      exec .huntId s = .next { s with ptr := s.ptr + 1#8, st := .ident })

/-- The steps of ID other than ID.MATCH (R108, R110, R111). ID.END raises FrameNotFound when PTR ==
BUFLEN; ID.AGAIN, on 0x7D, adds 1 to PTR and stays in ID; ID.MISS, on a byte other than 0x01 and
0x7D, adds 1 to PTR and returns to HUNT. Nothing else changes. -/
def Obligations.IdentSteps : Prop :=
  ∀ (s : State) (b : Byte), s.st = .ident →
    (s.ptr = s.buflen →
      exec .idEnd s = .next { s with status := some .frameNotFound, st := .done }) ∧
    (s.ptr.toNat < s.buflen.toNat → s.buf.read s.ptr.toNat = some b → b = 0x7D#8 →
      exec .idAgain s = .next { s with ptr := s.ptr + 1#8 }) ∧
    (s.ptr.toNat < s.buflen.toNat → s.buf.read s.ptr.toNat = some b → b ≠ 0x01#8 → b ≠ 0x7D#8 →
      exec .idMiss s = .next { s with ptr := s.ptr + 1#8, st := .hunt })

/-- ID.MATCH records the offset and makes the exact bounds check (R109). On 0x01 in ID with PTR >= 1,
OFF becomes PTR - 1 and PTR adds 1; if OFF + 88 > BUFLEN in exact arithmetic the cycle ends with
StreamTruncated, else FRAME[0..1] = 7D 01, SUM = 0x007E, CNT = 2 and ST = CAPT. Every other FRAME
cell and register is unchanged. -/
def Obligations.IdMatchFindsTheFrame : Prop :=
  ∀ s : State, s.st = .ident → 1 ≤ s.ptr.toNat → s.ptr.toNat < s.buflen.toNat →
    s.buf.read s.ptr.toNat = some 0x01#8 →
    ∃ t, exec .idMatch s = .next t ∧ t.off.toNat = s.ptr.toNat - 1 ∧
      t.ptr.toNat = s.ptr.toNat + 1 ∧
      (s.ptr.toNat - 1 + 88 > s.buflen.toNat →
        { t with off := s.off, ptr := s.ptr } =
          { s with status := some .streamTruncated, st := .done }) ∧
      (s.ptr.toNat - 1 + 88 ≤ s.buflen.toNat →
        t.frame.read 0 = some 0x7D#8 ∧ t.frame.read 1 = some 0x01#8 ∧
        (∀ j, 2 ≤ j → t.frame.read j = s.frame.read j) ∧
        { t with off := s.off, ptr := s.ptr, frame := s.frame } =
          { s with sum := 0x007E#16, cnt := 2#7, st := .capt })

/-- CAPT.LENLO and CAPT.LENHI capture frame bytes 2 and 3, load LEN and sum (R122, R123). With CNT = 2
(3) the byte goes to FRAME[2] (FRAME[3]) and to the low (high) half of LEN, SUM becomes (SUM + b)
mod 65536, PTR and CNT add 1. Every other FRAME cell and register is unchanged. -/
def Obligations.CaptureOfTheDeclaredLength : Prop :=
  ∀ (s : State) (b : Byte), s.st = .capt → s.ptr.toNat < s.buflen.toNat →
    s.buf.read s.ptr.toNat = some b →
    (s.cnt.toNat = 2 → ∃ t, exec .captLenlo s = .next t ∧
      t.len = (s.len &&& 0xFF00#16) ||| zext 16 b ∧
      t.sum.toNat = (s.sum.toNat + b.toNat) % 65536 ∧ t.ptr = s.ptr + 1#8 ∧ t.cnt = 3#7 ∧
      t.frame.read 2 = some b ∧ (∀ j, j ≠ 2 → t.frame.read j = s.frame.read j) ∧
      { t with len := s.len, sum := s.sum, ptr := s.ptr, cnt := s.cnt, frame := s.frame } = s) ∧
    (s.cnt.toNat = 3 → ∃ t, exec .captLenhi s = .next t ∧
      t.len = (s.len &&& 0x00FF#16) ||| (zext 16 b <<< 8) ∧
      t.sum.toNat = (s.sum.toNat + b.toNat) % 65536 ∧ t.ptr = s.ptr + 1#8 ∧ t.cnt = 4#7 ∧
      t.frame.read 3 = some b ∧ (∀ j, j ≠ 3 → t.frame.read j = s.frame.read j) ∧
      { t with len := s.len, sum := s.sum, ptr := s.ptr, cnt := s.cnt, frame := s.frame } = s)

/-- CAPT.BODY captures one of frame bytes 4 to 85 and sums it (R124). With CNT from 4 to 85 the byte
goes to FRAME[CNT], SUM becomes (SUM + b) mod 65536, PTR and CNT add 1. Every other FRAME cell and
register is unchanged. -/
def Obligations.CaptureOfTheBody : Prop :=
  ∀ (s : State) (b : Byte), s.st = .capt → s.ptr.toNat < s.buflen.toNat →
    s.buf.read s.ptr.toNat = some b →
    4 ≤ s.cnt.toNat → s.cnt.toNat ≤ 85 → ∃ t, exec .captBody s = .next t ∧
      t.sum.toNat = (s.sum.toNat + b.toNat) % 65536 ∧ t.ptr = s.ptr + 1#8 ∧
      t.cnt.toNat = s.cnt.toNat + 1 ∧ t.frame.read s.cnt.toNat = some b ∧
      (∀ j, j ≠ s.cnt.toNat → t.frame.read j = s.frame.read j) ∧
      { t with sum := s.sum, ptr := s.ptr, cnt := s.cnt, frame := s.frame } = s

/-- CAPT.CKLO and CAPT.CKHI capture frame bytes 86 and 87 and load CKRX; SUM is not changed (R125,
R126). With CNT = 86 (87) the byte goes to FRAME[86] (FRAME[87]) and to the low (high) half of
CKRX, PTR and CNT add 1; CAPT.CKHI leaves CNT = 88 and ST = CHECK. Every other FRAME cell and
register, SUM among them, is unchanged. -/
def Obligations.CaptureOfTheChecksum : Prop :=
  ∀ (s : State) (b : Byte), s.st = .capt → s.ptr.toNat < s.buflen.toNat →
    s.buf.read s.ptr.toNat = some b →
    (s.cnt.toNat = 86 → ∃ t, exec .captCklo s = .next t ∧
      t.ckrx = (s.ckrx &&& 0xFF00#16) ||| zext 16 b ∧ t.ptr = s.ptr + 1#8 ∧ t.cnt = 87#7 ∧
      t.frame.read 86 = some b ∧ (∀ j, j ≠ 86 → t.frame.read j = s.frame.read j) ∧
      { t with ckrx := s.ckrx, ptr := s.ptr, cnt := s.cnt, frame := s.frame } = s) ∧
    (s.cnt.toNat = 87 → ∃ t, exec .captCkhi s = .next t ∧
      t.ckrx = (s.ckrx &&& 0x00FF#16) ||| (zext 16 b <<< 8) ∧ t.ptr = s.ptr + 1#8 ∧
      t.cnt = 88#7 ∧ t.frame.read 87 = some b ∧
      (∀ j, j ≠ 87 → t.frame.read j = s.frame.read j) ∧
      { t with ckrx := s.ckrx, ptr := s.ptr, cnt := s.cnt, frame := s.frame } =
        { s with st := .check })

/-- CHECK goes on to DECODE exactly when SUM equals CKRX on all 16 bits (R127). In CHECK, SUM = CKRX
leads to ST = DECODE and nothing else; any difference ends the cycle with ChecksumMismatch and
nothing else, so no ENS register is written. -/
def Obligations.CheckComparesTheSums : Prop :=
  ∀ s : State, s.st = .check →
    (s.sum = s.ckrx → exec .check s = .next { s with st := .decode }) ∧
    (s.sum ≠ s.ckrx →
      exec .check s = .next { s with status := some .checksumMismatch, st := .done })

/-- DECODE writes all 41 registers and ends the cycle with Success (R144). In DECODE with all 88 FRAME
bytes captured, one step writes every ENS[k] with the little-endian pattern of its field, sets
STATUS to Success, ST to DONE and so ENS_VALID to 1; nothing else changes. -/
def Obligations.DecodeWritesTheEnsemble : Prop :=
  ∀ s : State, s.st = .decode → (∀ j < 88, (s.frame.read j).isSome = true) →
    ∃ t, exec .decode s = .next t ∧ t.st = .done ∧ t.status = some .success ∧
      flagEnsValid t = true ∧
      (∀ f, ∃ v, ensGet t.ens f = some v ∧
        memRead s.frame (fieldOffset f) (fieldBytes f) = some v) ∧
      { t with st := s.st, status := s.status, ens := s.ens } = s

/-- The 10 one-byte field stages: the register written, the value, the read-port form, the selector
(42_field_decoder.md R145, R146, R148, R157, 42_field_decoder.md R164, R165, R166, R167,
42_field_decoder.md R168, R172, log entry 6). For each u8 field: when its frame bytes hold values,
its stage writes its ENS register with the little-endian pattern of those bytes and changes
nothing else; the value and FDATA of a pattern are as its type says; its FSEL decodes to the
stage. That a stage runs alone, as an operation that writes its register whatever ST is, is the
model's choice (log entry 6, unsafe if taken for a host's move): R32 lets the DECODE step alone
write these registers. -/
def Obligations.StagesOfU8Fields : Prop :=
  (∀ (s : State) (b0 : Byte),
    (s.frame.read 0 = some b0 →
      exec .fxId s = .next { s with ens := { s.ens with id := some b0 } }) ∧
    (s.frame.read 1 = some b0 →
      exec .fxFormat s = .next { s with ens := { s.ens with format := some b0 } }) ∧
    (s.frame.read 4 = some b0 →
      exec .fxSystemConfig s = .next { s with ens := { s.ens with systemConfig := some b0 } }) ∧
    (s.frame.read 21 = some b0 →
      exec .fxBottomStatus s = .next { s with ens := { s.ens with bottomStatus := some b0 } }) ∧
    (s.frame.read 34 = some b0 →
      exec .fxRefLayerStatus s = .next { s with ens := { s.ens with refLayerStatus := some b0 } }) ∧
    (s.frame.read 35 = some b0 →
      exec .fxTofpHour s = .next { s with ens := { s.ens with tofpHour := some b0 } }) ∧
    (s.frame.read 36 = some b0 →
      exec .fxTofpMin s = .next { s with ens := { s.ens with tofpMin := some b0 } }) ∧
    (s.frame.read 37 = some b0 →
      exec .fxTofpSec s = .next { s with ens := { s.ens with tofpSec := some b0 } }) ∧
    (s.frame.read 38 = some b0 →
      exec .fxTofpErr s = .next { s with ens := { s.ens with tofpErr := some b0 } }) ∧
    (s.frame.read 45 = some b0 →
      exec .fxSalinity s = .next { s with ens := { s.ens with salinity := some b0 } })) ∧
  (∀ v : BitVec 8,
    fieldValue .id v = (v.toNat : Int) ∧ extendField .id v = zext 32 v ∧
    fieldValue .format v = (v.toNat : Int) ∧ extendField .format v = zext 32 v ∧
    fieldValue .systemConfig v = (v.toNat : Int) ∧ extendField .systemConfig v = zext 32 v ∧
    fieldValue .bottomStatus v = (v.toNat : Int) ∧ extendField .bottomStatus v = zext 32 v ∧
    fieldValue .refLayerStatus v = (v.toNat : Int) ∧ extendField .refLayerStatus v = zext 32 v ∧
    fieldValue .tofpHour v = (v.toNat : Int) ∧ extendField .tofpHour v = zext 32 v ∧
    fieldValue .tofpMin v = (v.toNat : Int) ∧ extendField .tofpMin v = zext 32 v ∧
    fieldValue .tofpSec v = (v.toNat : Int) ∧ extendField .tofpSec v = zext 32 v ∧
    fieldValue .tofpErr v = (v.toNat : Int) ∧ extendField .tofpErr v = zext 32 v ∧
    fieldValue .salinity v = (v.toNat : Int) ∧ extendField .salinity v = zext 32 v) ∧
  decode (.stage 0#6) = .ok .fxId ∧
  decode (.stage 1#6) = .ok .fxFormat ∧
  decode (.stage 3#6) = .ok .fxSystemConfig ∧
  decode (.stage 12#6) = .ok .fxBottomStatus ∧
  decode (.stage 19#6) = .ok .fxRefLayerStatus ∧
  decode (.stage 20#6) = .ok .fxTofpHour ∧
  decode (.stage 21#6) = .ok .fxTofpMin ∧
  decode (.stage 22#6) = .ok .fxTofpSec ∧
  decode (.stage 23#6) = .ok .fxTofpErr ∧
  decode (.stage 27#6) = .ok .fxSalinity

/-- The 11 unsigned two-byte field stages: the register written, the value, the read-port form, the
selector (42_field_decoder.md R147, R153, R154, R155, 42_field_decoder.md R156, R162, R163, R169,
42_field_decoder.md R170, R173, R185, log entry 6). For each u16 field: when its frame bytes hold
values, its stage writes its ENS register with the little-endian pattern of those bytes and
changes nothing else; the value and FDATA of a pattern are as its type says; its FSEL decodes to
the stage. That a stage runs alone, as an operation that writes its register whatever ST is, is
the model's choice (log entry 6, unsafe if taken for a host's move): R32 lets the DECODE step
alone write these registers. -/
def Obligations.StagesOfU16Fields : Prop :=
  (∀ (s : State) (b0 b1 : Byte),
    (s.frame.read 2 = some b0 → s.frame.read 3 = some b1 →
      exec .fxByteCount s = .next { s with ens := { s.ens with byteCount := some (zext 16 b0 ||| zext 16 b1 <<< 8) } }) ∧
    (s.frame.read 13 = some b0 → s.frame.read 14 = some b1 →
      exec .fxRangeBeam1 s = .next { s with ens := { s.ens with rangeBeam1 := some (zext 16 b0 ||| zext 16 b1 <<< 8) } }) ∧
    (s.frame.read 15 = some b0 → s.frame.read 16 = some b1 →
      exec .fxRangeBeam2 s = .next { s with ens := { s.ens with rangeBeam2 := some (zext 16 b0 ||| zext 16 b1 <<< 8) } }) ∧
    (s.frame.read 17 = some b0 → s.frame.read 18 = some b1 →
      exec .fxRangeBeam3 s = .next { s with ens := { s.ens with rangeBeam3 := some (zext 16 b0 ||| zext 16 b1 <<< 8) } }) ∧
    (s.frame.read 19 = some b0 → s.frame.read 20 = some b1 →
      exec .fxRangeBeam4 s = .next { s with ens := { s.ens with rangeBeam4 := some (zext 16 b0 ||| zext 16 b1 <<< 8) } }) ∧
    (s.frame.read 30 = some b0 → s.frame.read 31 = some b1 →
      exec .fxRefLayerStart s = .next { s with ens := { s.ens with refLayerStart := some (zext 16 b0 ||| zext 16 b1 <<< 8) } }) ∧
    (s.frame.read 32 = some b0 → s.frame.read 33 = some b1 →
      exec .fxRefLayerEnd s = .next { s with ens := { s.ens with refLayerEnd := some (zext 16 b0 ||| zext 16 b1 <<< 8) } }) ∧
    (s.frame.read 39 = some b0 → s.frame.read 40 = some b1 →
      exec .fxBitResult s = .next { s with ens := { s.ens with bitResult := some (zext 16 b0 ||| zext 16 b1 <<< 8) } }) ∧
    (s.frame.read 41 = some b0 → s.frame.read 42 = some b1 →
      exec .fxSpeedOfSound s = .next { s with ens := { s.ens with speedOfSound := some (zext 16 b0 ||| zext 16 b1 <<< 8) } }) ∧
    (s.frame.read 46 = some b0 → s.frame.read 47 = some b1 →
      exec .fxDepth s = .next { s with ens := { s.ens with depth := some (zext 16 b0 ||| zext 16 b1 <<< 8) } }) ∧
    (s.frame.read 86 = some b0 → s.frame.read 87 = some b1 →
      exec .fxChecksum s = .next { s with ens := { s.ens with checksum := some (zext 16 b0 ||| zext 16 b1 <<< 8) } })) ∧
  (∀ v : BitVec 16,
    fieldValue .byteCount v = (v.toNat : Int) ∧ extendField .byteCount v = zext 32 v ∧
    fieldValue .rangeBeam1 v = (v.toNat : Int) ∧ extendField .rangeBeam1 v = zext 32 v ∧
    fieldValue .rangeBeam2 v = (v.toNat : Int) ∧ extendField .rangeBeam2 v = zext 32 v ∧
    fieldValue .rangeBeam3 v = (v.toNat : Int) ∧ extendField .rangeBeam3 v = zext 32 v ∧
    fieldValue .rangeBeam4 v = (v.toNat : Int) ∧ extendField .rangeBeam4 v = zext 32 v ∧
    fieldValue .refLayerStart v = (v.toNat : Int) ∧ extendField .refLayerStart v = zext 32 v ∧
    fieldValue .refLayerEnd v = (v.toNat : Int) ∧ extendField .refLayerEnd v = zext 32 v ∧
    fieldValue .bitResult v = (v.toNat : Int) ∧ extendField .bitResult v = zext 32 v ∧
    fieldValue .speedOfSound v = (v.toNat : Int) ∧ extendField .speedOfSound v = zext 32 v ∧
    fieldValue .depth v = (v.toNat : Int) ∧ extendField .depth v = zext 32 v ∧
    fieldValue .checksum v = (v.toNat : Int) ∧ extendField .checksum v = zext 32 v) ∧
  decode (.stage 2#6) = .ok .fxByteCount ∧
  decode (.stage 8#6) = .ok .fxRangeBeam1 ∧
  decode (.stage 9#6) = .ok .fxRangeBeam2 ∧
  decode (.stage 10#6) = .ok .fxRangeBeam3 ∧
  decode (.stage 11#6) = .ok .fxRangeBeam4 ∧
  decode (.stage 17#6) = .ok .fxRefLayerStart ∧
  decode (.stage 18#6) = .ok .fxRefLayerEnd ∧
  decode (.stage 24#6) = .ok .fxBitResult ∧
  decode (.stage 25#6) = .ok .fxSpeedOfSound ∧
  decode (.stage 28#6) = .ok .fxDepth ∧
  decode (.stage 40#6) = .ok .fxChecksum

/-- The 12 signed two-byte field stages: the register written, the value, the read-port form, the
selector (42_field_decoder.md R149, R150, R151, R152, 42_field_decoder.md R158, R159, R160, R161,
42_field_decoder.md R171, R174, R175, R176, log entry 6). For each s16 field: when its frame bytes
hold values, its stage writes its ENS register with the little-endian pattern of those bytes and
changes nothing else; the value and FDATA of a pattern are as its type says; its FSEL decodes to
the stage. That a stage runs alone, as an operation that writes its register whatever ST is, is
the model's choice (log entry 6, unsafe if taken for a host's move): R32 lets the DECODE step
alone write these registers. -/
def Obligations.StagesOfS16Fields : Prop :=
  (∀ (s : State) (b0 b1 : Byte),
    (s.frame.read 5 = some b0 → s.frame.read 6 = some b1 →
      exec .fxVelBottomX s = .next { s with ens := { s.ens with velBottomX := some (zext 16 b0 ||| zext 16 b1 <<< 8) } }) ∧
    (s.frame.read 7 = some b0 → s.frame.read 8 = some b1 →
      exec .fxVelBottomY s = .next { s with ens := { s.ens with velBottomY := some (zext 16 b0 ||| zext 16 b1 <<< 8) } }) ∧
    (s.frame.read 9 = some b0 → s.frame.read 10 = some b1 →
      exec .fxVelBottomZ s = .next { s with ens := { s.ens with velBottomZ := some (zext 16 b0 ||| zext 16 b1 <<< 8) } }) ∧
    (s.frame.read 11 = some b0 → s.frame.read 12 = some b1 →
      exec .fxVelBottomE s = .next { s with ens := { s.ens with velBottomE := some (zext 16 b0 ||| zext 16 b1 <<< 8) } }) ∧
    (s.frame.read 22 = some b0 → s.frame.read 23 = some b1 →
      exec .fxVelWaterMass1 s = .next { s with ens := { s.ens with velWaterMass1 := some (zext 16 b0 ||| zext 16 b1 <<< 8) } }) ∧
    (s.frame.read 24 = some b0 → s.frame.read 25 = some b1 →
      exec .fxVelWaterMass2 s = .next { s with ens := { s.ens with velWaterMass2 := some (zext 16 b0 ||| zext 16 b1 <<< 8) } }) ∧
    (s.frame.read 26 = some b0 → s.frame.read 27 = some b1 →
      exec .fxVelWaterMass3 s = .next { s with ens := { s.ens with velWaterMass3 := some (zext 16 b0 ||| zext 16 b1 <<< 8) } }) ∧
    (s.frame.read 28 = some b0 → s.frame.read 29 = some b1 →
      exec .fxVelWaterMass4 s = .next { s with ens := { s.ens with velWaterMass4 := some (zext 16 b0 ||| zext 16 b1 <<< 8) } }) ∧
    (s.frame.read 43 = some b0 → s.frame.read 44 = some b1 →
      exec .fxTemperature s = .next { s with ens := { s.ens with temperature := some (zext 16 b0 ||| zext 16 b1 <<< 8) } }) ∧
    (s.frame.read 48 = some b0 → s.frame.read 49 = some b1 →
      exec .fxPitch s = .next { s with ens := { s.ens with pitch := some (zext 16 b0 ||| zext 16 b1 <<< 8) } }) ∧
    (s.frame.read 50 = some b0 → s.frame.read 51 = some b1 →
      exec .fxRoll s = .next { s with ens := { s.ens with roll := some (zext 16 b0 ||| zext 16 b1 <<< 8) } }) ∧
    (s.frame.read 52 = some b0 → s.frame.read 53 = some b1 →
      exec .fxHeading s = .next { s with ens := { s.ens with heading := some (zext 16 b0 ||| zext 16 b1 <<< 8) } })) ∧
  (∀ v : BitVec 16,
    fieldValue .velBottomX v = v.toInt ∧ extendField .velBottomX v = sext 32 v ∧
    fieldValue .velBottomY v = v.toInt ∧ extendField .velBottomY v = sext 32 v ∧
    fieldValue .velBottomZ v = v.toInt ∧ extendField .velBottomZ v = sext 32 v ∧
    fieldValue .velBottomE v = v.toInt ∧ extendField .velBottomE v = sext 32 v ∧
    fieldValue .velWaterMass1 v = v.toInt ∧ extendField .velWaterMass1 v = sext 32 v ∧
    fieldValue .velWaterMass2 v = v.toInt ∧ extendField .velWaterMass2 v = sext 32 v ∧
    fieldValue .velWaterMass3 v = v.toInt ∧ extendField .velWaterMass3 v = sext 32 v ∧
    fieldValue .velWaterMass4 v = v.toInt ∧ extendField .velWaterMass4 v = sext 32 v ∧
    fieldValue .temperature v = v.toInt ∧ extendField .temperature v = sext 32 v ∧
    fieldValue .pitch v = v.toInt ∧ extendField .pitch v = sext 32 v ∧
    fieldValue .roll v = v.toInt ∧ extendField .roll v = sext 32 v ∧
    fieldValue .heading v = v.toInt ∧ extendField .heading v = sext 32 v) ∧
  decode (.stage 4#6) = .ok .fxVelBottomX ∧
  decode (.stage 5#6) = .ok .fxVelBottomY ∧
  decode (.stage 6#6) = .ok .fxVelBottomZ ∧
  decode (.stage 7#6) = .ok .fxVelBottomE ∧
  decode (.stage 13#6) = .ok .fxVelWaterMass1 ∧
  decode (.stage 14#6) = .ok .fxVelWaterMass2 ∧
  decode (.stage 15#6) = .ok .fxVelWaterMass3 ∧
  decode (.stage 16#6) = .ok .fxVelWaterMass4 ∧
  decode (.stage 26#6) = .ok .fxTemperature ∧
  decode (.stage 29#6) = .ok .fxPitch ∧
  decode (.stage 30#6) = .ok .fxRoll ∧
  decode (.stage 31#6) = .ok .fxHeading

/-- The 8 four-byte field stages: the register written, the value, the read-port form, the selector
(42_field_decoder.md R177, R178, R179, R180, 42_field_decoder.md R181, R182, R183, R184, log entry
6). For each u32 field: when its frame bytes hold values, its stage writes its ENS register with
the little-endian pattern of those bytes and changes nothing else; the value and FDATA of a
pattern are as its type says; its FSEL decodes to the stage. That a stage runs alone, as an
operation that writes its register whatever ST is, is the model's choice (log entry 6, unsafe if
taken for a host's move): R32 lets the DECODE step alone write these registers. -/
def Obligations.StagesOfU32Fields : Prop :=
  (∀ (s : State) (b0 b1 b2 b3 : Byte),
    (s.frame.read 54 = some b0 → s.frame.read 55 = some b1 →
      s.frame.read 56 = some b2 → s.frame.read 57 = some b3 →
      exec .fxDmgBottomE s = .next { s with ens := { s.ens with dmgBottomE := some (zext 32 b0 ||| zext 32 b1 <<< 8 ||| zext 32 b2 <<< 16 ||| zext 32 b3 <<< 24) } }) ∧
    (s.frame.read 58 = some b0 → s.frame.read 59 = some b1 →
      s.frame.read 60 = some b2 → s.frame.read 61 = some b3 →
      exec .fxDmgBottomN s = .next { s with ens := { s.ens with dmgBottomN := some (zext 32 b0 ||| zext 32 b1 <<< 8 ||| zext 32 b2 <<< 16 ||| zext 32 b3 <<< 24) } }) ∧
    (s.frame.read 62 = some b0 → s.frame.read 63 = some b1 →
      s.frame.read 64 = some b2 → s.frame.read 65 = some b3 →
      exec .fxDmgBottomUp s = .next { s with ens := { s.ens with dmgBottomUp := some (zext 32 b0 ||| zext 32 b1 <<< 8 ||| zext 32 b2 <<< 16 ||| zext 32 b3 <<< 24) } }) ∧
    (s.frame.read 66 = some b0 → s.frame.read 67 = some b1 →
      s.frame.read 68 = some b2 → s.frame.read 69 = some b3 →
      exec .fxDmgBottomErr s = .next { s with ens := { s.ens with dmgBottomErr := some (zext 32 b0 ||| zext 32 b1 <<< 8 ||| zext 32 b2 <<< 16 ||| zext 32 b3 <<< 24) } }) ∧
    (s.frame.read 70 = some b0 → s.frame.read 71 = some b1 →
      s.frame.read 72 = some b2 → s.frame.read 73 = some b3 →
      exec .fxDmgWaterE s = .next { s with ens := { s.ens with dmgWaterE := some (zext 32 b0 ||| zext 32 b1 <<< 8 ||| zext 32 b2 <<< 16 ||| zext 32 b3 <<< 24) } }) ∧
    (s.frame.read 74 = some b0 → s.frame.read 75 = some b1 →
      s.frame.read 76 = some b2 → s.frame.read 77 = some b3 →
      exec .fxDmgWaterN s = .next { s with ens := { s.ens with dmgWaterN := some (zext 32 b0 ||| zext 32 b1 <<< 8 ||| zext 32 b2 <<< 16 ||| zext 32 b3 <<< 24) } }) ∧
    (s.frame.read 78 = some b0 → s.frame.read 79 = some b1 →
      s.frame.read 80 = some b2 → s.frame.read 81 = some b3 →
      exec .fxDmgWaterUp s = .next { s with ens := { s.ens with dmgWaterUp := some (zext 32 b0 ||| zext 32 b1 <<< 8 ||| zext 32 b2 <<< 16 ||| zext 32 b3 <<< 24) } }) ∧
    (s.frame.read 82 = some b0 → s.frame.read 83 = some b1 →
      s.frame.read 84 = some b2 → s.frame.read 85 = some b3 →
      exec .fxDmgWaterErr s = .next { s with ens := { s.ens with dmgWaterErr := some (zext 32 b0 ||| zext 32 b1 <<< 8 ||| zext 32 b2 <<< 16 ||| zext 32 b3 <<< 24) } })) ∧
  (∀ v : BitVec 32,
    fieldValue .dmgBottomE v = (v.toNat : Int) ∧ extendField .dmgBottomE v = v ∧
    fieldValue .dmgBottomN v = (v.toNat : Int) ∧ extendField .dmgBottomN v = v ∧
    fieldValue .dmgBottomUp v = (v.toNat : Int) ∧ extendField .dmgBottomUp v = v ∧
    fieldValue .dmgBottomErr v = (v.toNat : Int) ∧ extendField .dmgBottomErr v = v ∧
    fieldValue .dmgWaterE v = (v.toNat : Int) ∧ extendField .dmgWaterE v = v ∧
    fieldValue .dmgWaterN v = (v.toNat : Int) ∧ extendField .dmgWaterN v = v ∧
    fieldValue .dmgWaterUp v = (v.toNat : Int) ∧ extendField .dmgWaterUp v = v ∧
    fieldValue .dmgWaterErr v = (v.toNat : Int) ∧ extendField .dmgWaterErr v = v) ∧
  decode (.stage 32#6) = .ok .fxDmgBottomE ∧
  decode (.stage 33#6) = .ok .fxDmgBottomN ∧
  decode (.stage 34#6) = .ok .fxDmgBottomUp ∧
  decode (.stage 35#6) = .ok .fxDmgBottomErr ∧
  decode (.stage 36#6) = .ok .fxDmgWaterE ∧
  decode (.stage 37#6) = .ok .fxDmgWaterN ∧
  decode (.stage 38#6) = .ok .fxDmgWaterUp ∧
  decode (.stage 39#6) = .ok .fxDmgWaterErr

/-- Running the 41 stages one after another writes the ensemble that DECODE writes
(42_field_decoder.md R144, 30_encoding.md R86, log entry 6). On a frame with all 88 bytes, the 41
stage operations run in order of k answer the state with one ensemble e written and nothing else
changed, and DECODE from the same registers answers that same e with Success. In the block the 41
writes are the one DECODE step of R144; running a stage as an operation of its own is the model's
choice (log entry 6). -/
def Obligations.StagesTogetherAreDecode : Prop :=
  ∀ s : State, (∀ j < 88, (s.frame.read j).isSome = true) →
    ∃ e, allFields.foldl (fun (r : Result) f => match r with
        | .next t => exec (stageOf f) t
        | stop => stop) (.next s) = .next { s with ens := e } ∧
      exec .decode { s with st := .decode } =
        .next { s with ens := e, status := some .success, st := .done }

/-- A read of a cell that holds no value, or at or past BUFLEN, is a named fault (00_scope.md R7,
93_implementation_defined.md U9, log entry 2). A stage of which some frame byte holds no value
faults, DECODE on such a frame faults, and each scan or capture step that reads BUF[PTR] faults
when PTR > BUFLEN or when that cell holds no value. That an unwritten cell has no value is the
model's choice (log entry 2). -/
def Obligations.UnwrittenCellsStop : Prop :=
  ∀ s : State,
    (∀ f, memRead s.frame (fieldOffset f) (fieldBytes f) = none →
      exec (stageOf f) s = .fault (.frameUnwritten (fieldOffset f)) ∧
      (s.st = .decode → exec .decode s = .fault (.frameUnwritten 0))) ∧
    (∀ i ∈ [Instr.huntId, .huntSkip], s.st = .hunt →
      (s.buflen.toNat ≤ s.ptr.toNat → exec i s = .fault (.bufOutOfRange s.ptr.toNat)) ∧
      (s.ptr.toNat < s.buflen.toNat → s.buf.read s.ptr.toNat = none →
        exec i s = .fault (.bufUnwritten s.ptr.toNat))) ∧
    (∀ i ∈ [Instr.idMatch, .idAgain, .idMiss], s.st = .ident →
      (s.buflen.toNat ≤ s.ptr.toNat → exec i s = .fault (.bufOutOfRange s.ptr.toNat)) ∧
      (s.ptr.toNat < s.buflen.toNat → s.buf.read s.ptr.toNat = none →
        exec i s = .fault (.bufUnwritten s.ptr.toNat))) ∧
    (∀ x ∈ [(Instr.captLenlo, 2, 2), (.captLenhi, 3, 3), (.captBody, 4, 85), (.captCklo, 86, 86),
        (.captCkhi, 87, 87)], s.st = .capt → x.2.1 ≤ s.cnt.toNat → s.cnt.toNat ≤ x.2.2 →
      (s.buflen.toNat ≤ s.ptr.toNat → exec x.1 s = .fault (.bufOutOfRange s.ptr.toNat)) ∧
      (s.ptr.toNat < s.buflen.toNat → s.buf.read s.ptr.toNat = none →
        exec x.1 s = .fault (.bufUnwritten s.ptr.toNat)))

/-- A sequencer step that its row of R87 does not select is a named fault (43_acquisition.md R200,
30_encoding.md R87, log entry 8). Each of the 14 STEP operations faults in every ST other than its
own; HUNT.END and ID.END also when PTR != BUFLEN, the byte steps also on a byte of another row,
and the CAPT steps also for CNT of another row. R200 calls such a step not enabled; the fault is
the model's form of it (log entry 8). -/
def Obligations.UnselectedStepsStop : Prop :=
  ∀ (s : State) (b : Byte),
    (s.st ≠ .hunt → ∀ i ∈ [Instr.huntEnd, .huntId, .huntSkip],
      exec i s = .fault .stepNotEnabled) ∧
    (s.st ≠ .ident → ∀ i ∈ [Instr.idEnd, .idMatch, .idAgain, .idMiss],
      exec i s = .fault .stepNotEnabled) ∧
    (s.st ≠ .capt → ∀ i ∈ [Instr.captLenlo, .captLenhi, .captBody, .captCklo, .captCkhi],
      exec i s = .fault .stepNotEnabled) ∧
    (s.st ≠ .check → exec .check s = .fault .stepNotEnabled) ∧
    (s.st ≠ .decode → exec .decode s = .fault .stepNotEnabled) ∧
    (s.ptr ≠ s.buflen → exec .huntEnd s = .fault .stepNotEnabled ∧
      exec .idEnd s = .fault .stepNotEnabled) ∧
    (s.ptr.toNat < s.buflen.toNat → s.buf.read s.ptr.toNat = some b →
      (b ≠ 0x7D#8 → exec .huntId s = .fault .stepNotEnabled ∧
        exec .idAgain s = .fault .stepNotEnabled) ∧
      (b = 0x7D#8 → exec .huntSkip s = .fault .stepNotEnabled ∧
        exec .idMiss s = .fault .stepNotEnabled) ∧
      (b ≠ 0x01#8 → exec .idMatch s = .fault .stepNotEnabled) ∧
      (b = 0x01#8 → exec .idMiss s = .fault .stepNotEnabled)) ∧
    (s.cnt.toNat ≠ 2 → exec .captLenlo s = .fault .stepNotEnabled) ∧
    (s.cnt.toNat ≠ 3 → exec .captLenhi s = .fault .stepNotEnabled) ∧
    (¬(4 ≤ s.cnt.toNat ∧ s.cnt.toNat ≤ 85) → exec .captBody s = .fault .stepNotEnabled) ∧
    (s.cnt.toNat ≠ 86 → exec .captCklo s = .fault .stepNotEnabled) ∧
    (s.cnt.toNat ≠ 87 → exec .captCkhi s = .fault .stepNotEnabled)

/-- PD5 answers whether the marker pair starts at an offset, wholly inside the buffer (30_encoding.md
R81, 40_synchronizer.md R101, log entry 6). The header match at offset i answers true exactly when
the bytes at i and i + 1, both below BUFLEN, are 0x7D and 0x01; it changes nothing but the event
history. The answer as an event is the model's form (log entry 6). -/
def Obligations.HeaderMatchIsTheMarkerPair : Prop :=
  ∀ (s : State) (i : BitVec 8),
    (∀ a b, i.toNat + 1 < s.buflen.toNat → s.buf.read i.toNat = some a →
      s.buf.read (i.toNat + 1) = some b →
      exec (.pd5 i) s = .next { s with
        history := s.history ++ [.header (a = 0x7D#8 ∧ b = 0x01#8)] }) ∧
    (s.buflen.toNat ≤ i.toNat + 1 →
      exec (.pd5 i) s = .next { s with history := s.history ++ [.header false] })

/-- SYNC answers by the first marker pair and the exact bounds check (40_synchronizer.md R100, log
entry 5, log entry 6). On any sequence of at most 255 bytes SYNC answers FrameNotFound when no
marker pair lies in it; with first pair at i it answers StreamTruncated when i + 88 > n, else
CandidateFrame(i); no register changes. That SYNC runs as an operation of its own (log entry 6)
and records its result as an event of the history (log entry 5) is the model's choice; the
function computed is that of R100. -/
def Obligations.SyncFindsTheFirstPair : Prop :=
  ∀ (s : State) (l : List Byte), l.length ≤ 255 →
    ((∀ j, ¬(l[j]? = some 0x7D#8 ∧ l[j + 1]? = some 0x01#8)) →
      exec (.sync l) s = .next { s with history := s.history ++ [.synced .frameNotFound] }) ∧
    (∀ i, l[i]? = some 0x7D#8 → l[i + 1]? = some 0x01#8 →
      (∀ j < i, ¬(l[j]? = some 0x7D#8 ∧ l[j + 1]? = some 0x01#8)) →
      exec (.sync l) s = .next { s with history := s.history ++ [.synced
        (if i + 88 > l.length then .streamTruncated else .candidateFrame i)] })

/-- VALIDATE accepts exactly the frames whose byte sum equals bytes 86 to 87 (41_checksum.md R120, log
entry 5, log entry 6). On 88 bytes VALIDATE answers ValidatedFrame when the sum of bytes 0 to 85
modulo 65536 equals byte 86 + 256 times byte 87, else ChecksumMismatch; no register changes. That
VALIDATE runs as an operation of its own (log entry 6) and records its result as an event of the
history (log entry 5) is the model's choice; the function computed is that of R120. -/
def Obligations.ValidateComparesTheSums : Prop :=
  ∀ (s : State) (f : List Byte) (lo hi : Byte), f.length = 88 → f[86]? = some lo →
    f[87]? = some hi →
    exec (.validate f) s = .next { s with history := s.history ++ [.validated
      (if ((f.take 86).map BitVec.toNat).sum % 65536 = lo.toNat + 256 * hi.toNat
        then .validatedFrame else .checksumMismatch)] }

/-- DECODEFN is total on 88 bytes and gives each field its little-endian number (42_field_decoder.md
R140, log entry 5, log entry 6). On 88 bytes DECODEFN answers an ensemble in which every field
holds the sum of its bytes, the i-th weighted by 256 to the i; no register changes. That DECODEFN
runs as an operation of its own (log entry 6) and records its result as an event of the history
(log entry 5) is the model's choice; the function computed is that of R140. -/
def Obligations.DecodefnExtractsEveryField : Prop :=
  ∀ (s : State) (l : List Byte), l.length = 88 →
    ∃ e, exec (.decodefn l) s = .next { s with history := s.history ++ [.decoded (some e)] } ∧
      ∀ f, ∃ v, ensGet e f = some v ∧
        v.toNat = ((List.range (fieldBytes f)).map fun i =>
          256 ^ i * ((l[fieldOffset f + i]?).getD 0#8).toNat).sum

/-- ACQUIRE answers the first failing test in the order of R198 (43_acquisition.md R197,
43_acquisition.md R198, log entry 5, log entry 6). ACQUIRE as an operation answers code 5 for nf
!= 5 whatever the delivery, then 1 for no bytes, 2 for 1 to 254, 3 without a marker pair, 2 when
the first frame runs past, 4 when its checksum fails, else Success with the decoded frame; no
register changes. That ACQUIRE runs as an operation of its own (log entry 6) and records its
result as an event of the history (log entry 5) is the model's choice; the function computed is
that of R197, in the order of R198. -/
def Obligations.AcquireTestsInOrder : Prop :=
  ∀ (s : State) (nf : BitVec 8) (d : List Byte), d.length ≤ 255 →
    ∃ o e, exec (.acquire nf d) s = .next { s with history := s.history ++ [.acquired o e] } ∧
      (o = .success ↔ e ≠ none) ∧
      (nf ≠ 5#8 → o = .unsupportedFormat) ∧
      (nf = 5#8 → d.length = 0 → o = .portUnresponsive) ∧
      (nf = 5#8 → 1 ≤ d.length → d.length ≤ 254 → o = .streamTruncated) ∧
      (nf = 5#8 → d.length = 255 →
        (∀ j, ¬(d[j]? = some 0x7D#8 ∧ d[j + 1]? = some 0x01#8)) → o = .frameNotFound) ∧
      (∀ i, nf = 5#8 → d.length = 255 → d[i]? = some 0x7D#8 → d[i + 1]? = some 0x01#8 →
        (∀ j < i, ¬(d[j]? = some 0x7D#8 ∧ d[j + 1]? = some 0x01#8)) →
        (167 < i → o = .streamTruncated) ∧
        (i ≤ 167 → validateFn ((d.drop i).take 88) = .checksumMismatch →
          o = .checksumMismatch) ∧
        (i ≤ 167 → validateFn ((d.drop i).take 88) = .validatedFrame →
          o = .success ∧ e = decodeFn ((d.drop i).take 88)))

/-- Accumulating bytes one at a time equals adding them exactly and reducing once (41_checksum.md
R121). One accumulation replaces SUM by (SUM + b) mod 65536 and changes nothing else (R121).
Accumulating any list of bytes from SUM = 0 leaves their exact sum modulo 65536, in whatever order
they are added: both are the spec's own inference, marked [derived] in R121. -/
def Obligations.AccumulatingBytesIsTheirSumModulo65536 : Prop :=
  (∀ (s : State) (b : Byte), (s.accumulate b).sum.toNat = (s.sum.toNat + b.toNat) % 65536 ∧
    { s.accumulate b with sum := s.sum } = s) ∧
  (∀ (s : State) (l : List Byte), s.sum = 0#16 →
    (l.foldl State.accumulate s).sum.toNat = (l.map BitVec.toNat).sum % 65536) ∧
  (∀ (s : State) (l l' : List Byte), l.Perm l' →
    (l.foldl State.accumulate s).sum = (l'.foldl State.accumulate s).sum)

/-- The checksum of a PD5 frame is its exact byte sum, at most 0x55AA, and no greater checksum is
accepted (41_checksum.md R128). For every sequence the computed checksum of its first 86 bytes
equals their exact sum and is at most 21930; a frame that validates has a transmitted checksum of
at most 0x55AA; and the sum of a candidate is at least 0x007E. -/
def Obligations.ChecksumNeverWraps : Prop :=
  ∀ f : List Byte,
    (computedChecksum f).toNat = ((f.take 86).map BitVec.toNat).sum ∧
    (computedChecksum f).toNat ≤ 0x55AA ∧
    (∀ lo hi : Byte, f[86]? = some lo → f[87]? = some hi → validateFn f = .validatedFrame →
      lo.toNat + 256 * hi.toNat ≤ 0x55AA) ∧
    (f[0]? = some 0x7D#8 → f[1]? = some 0x01#8 → 0x007E ≤ (computedChecksum f).toNat)

/-- One flipped bit in frame bytes 2 to 85, or any change of a checksum byte, is a ChecksumMismatch
(41_checksum.md R130, 95_test_vectors.md T2). Of a validated 88-byte frame: flipping any one bit
of a byte 2 to 85, or replacing byte 86 or 87 by any other byte, gives ChecksumMismatch. -/
def Obligations.SingleBitErrorsAreDetected : Prop :=
  ∀ f : List Byte, f.length = 88 → validateFn f = .validatedFrame →
    (∀ j e, 2 ≤ j → j ≤ 85 → e < 8 →
      validateFn (f.modify j fun b => b ^^^ (1#8 <<< e)) = .checksumMismatch) ∧
    (∀ j b, j = 86 ∨ j = 87 → f[j]? ≠ some b → validateFn (f.set j b) = .checksumMismatch)

/-- The scan steps compute SYNC, in i + 2 steps with a pair at i and n + 1 without (40_synchronizer.md
R113, 40_synchronizer.md R100). From HUNT with PTR = 0 and any buffer d of n bytes, with no host
acting, the block reaches DONE with code 3, DONE with code 2, or CAPT at OFF = i, as SYNC(d) says,
after the number of steps R113 states. -/
def Obligations.ScanStepsComputeSync : Prop :=
  ∀ (s : State) (d : List Byte), s.st = .hunt → s.ptr = 0#8 → s.inputs = [] →
    d.length = s.buflen.toNat → (∀ j < d.length, s.buf.read j = d[j]?) →
    (syncFn d = .frameNotFound → ∃ t, Host.Core.run Sys2Proof.core (d.length + 1) s = .next t ∧
      t.st = .done ∧ t.status = some .frameNotFound) ∧
    (syncFn d = .streamTruncated → ∃ i t, firstPair d = some i ∧
      Host.Core.run Sys2Proof.core (i + 2) s = .next t ∧
      t.st = .done ∧ t.status = some .streamTruncated) ∧
    (∀ i, syncFn d = .candidateFrame i → ∃ t,
      Host.Core.run Sys2Proof.core (i + 2) s = .next t ∧ t.st = .capt ∧
      t.off.toNat = i ∧ t.ptr.toNat = i + 2 ∧ t.cnt = 2#7 ∧ t.sum = 0x007E#16 ∧
      t.buf = s.buf ∧ t.buflen = s.buflen ∧ t.status = s.status ∧ t.ens = s.ens)

/-- 86 capture steps and CHECK copy the frame and compute VALIDATE (41_checksum.md R129,
41_checksum.md R120). From the state ID.MATCH leaves at OFF = i, 87 steps with no host acting
leave FRAME a copy of bytes i to i + 87 and reach DECODE exactly when VALIDATE of those bytes
accepts, and DONE with code 4 otherwise. -/
def Obligations.CaptureStepsComputeValidate : Prop :=
  ∀ (s : State) (d : List Byte), s.st = .capt → s.cnt = 2#7 → s.sum = 0x007E#16 →
    s.ptr.toNat = s.off.toNat + 2 → s.inputs = [] → d.length = s.buflen.toNat →
    s.off.toNat + 88 ≤ d.length → (∀ j < d.length, s.buf.read j = d[j]?) →
    d[s.off.toNat]? = some 0x7D#8 → d[s.off.toNat + 1]? = some 0x01#8 →
    s.frame.read 0 = some 0x7D#8 → s.frame.read 1 = some 0x01#8 →
    ∃ t, Host.Core.run Sys2Proof.core 87 s = .next t ∧
      (∀ j < 88, t.frame.read j = d[s.off.toNat + j]?) ∧
      (validateFn (frameAt d s.off.toNat) = .validatedFrame →
        t.st = .decode ∧ t.status = s.status) ∧
      (validateFn (frameAt d s.off.toNat) = .checksumMismatch →
        t.st = .done ∧ t.status = some .checksumMismatch) ∧ t.ens = s.ens

/-- A whole cycle ends in DONE with the outcome and ensemble of ACQUIRE (43_acquisition.md R197,
43_acquisition.md R201, 10_state.md R37). From any state with ST = IDLE or DONE, whatever its
other registers hold, START nf, a delivery d of at most 255 bytes and 257 own steps of the block
end in DONE with STATUS and ENS as ACQUIRE(nf, d) gives them, and with one RxRequest(255) recorded
exactly when nf = 5. -/
def Obligations.CycleComputesAcquire : Prop :=
  ∀ (s : State) (nf : BitVec 8) (d : List Byte), s.st = .idle ∨ s.st = .done →
    d.length ≤ 255 → s.inputs = [.command (commandWord 0b01#2 0#6 nf), .delivery d] →
    ∃ t, Host.Core.run Sys2Proof.core 259 s = .next t ∧ t.st = .done ∧
      t.status = some (acquireFn nf d).1 ∧
      (∀ f, ensGet t.ens f = ((acquireFn nf d).2).bind fun e => ensGet e f) ∧
      t.history = s.history ++ (if nf = 5#8 then [.rxRequest 255] else [])

/-- The invariants of R35 hold after reset (10_state.md R35, 10_state.md R39). State.reset meets Inv:
the items of R35, both memories in canonical form and within their spaces, and only inputs that a
port presents. -/
def Obligations.InvariantsHoldAtReset : Prop :=
  State.reset.Inv

/-- Every step keeps the invariants of R35 (10_state.md R35, 10_state.md R28, 10_state.md R30,
20_memory.md R60). For every state that meets Inv (pointer bounds, no pair before PTR, the frame a
copy of the buffer with SUM, LEN and CKRX as captured, STATUS present exactly in DONE, ENS written
wholly exactly after Success, canonical memories, port inputs only), every next state of the
machine meets it. -/
def Obligations.EveryStepKeepsTheInvariants : Prop :=
  ∀ s t : State, s.Inv → step s = .next t → t.Inv

/-- From every state that meets the invariants the machine goes on: no read outside the valid buffer,
no stop (40_synchronizer.md R112, 43_acquisition.md R200, 10_state.md R35, 30_encoding.md R87, log
entry 7). For every state that meets Inv, step answers a next state: no BUF read at or past
BUFLEN, no read of an unwritten cell, no refusal, and in HUNT, ID, CAPT, CHECK and DECODE a
sequencer step is always selected. In IDLE, WAITRX and DONE with no host acting R87 selects none;
that such a step is a wait and not a stop is the model's choice (log entry 7). -/
def Obligations.NoStepStopsUnderTheInvariants : Prop :=
  ∀ s : State, s.Inv → ∃ t, step s = .next t

/-- From any scanning, capturing, checking or decoding state the block reaches DONE by itself in at
most 257 steps (43_acquisition.md R201, 70_reset_and_hazards.md R251). For every state that meets
Inv, in HUNT, ID, CAPT, CHECK or DECODE, with no host acting, DONE is reached after some number of
steps, at most 257. -/
def Obligations.EveryScanEnds : Prop :=
  ∀ s : State, s.Inv → s.inputs = [] →
    s.st = .hunt ∨ s.st = .ident ∨ s.st = .capt ∨ s.st = .check ∨ s.st = .decode →
    ∃ k t, k ≤ 257 ∧ Host.Core.run Sys2Proof.core k s = .next t ∧ t.st = .done

/-- The block's own step adds 1 to PTR exactly when it reads a byte, and never otherwise changes it
(10_state.md R25, 40_synchronizer.md R104). For every own step that answers a next state: in HUNT,
ID or CAPT with PTR != BUFLEN, PTR grows by exactly 1 (without wrap); in every other case PTR is
unchanged. BUF and BUFLEN never change. -/
def Obligations.PointerMovesOneByteAtATime : Prop :=
  ∀ s t : State, s.ownStep → step s = .next t →
    ((s.st = .hunt ∨ s.st = .ident ∨ s.st = .capt) ∧ s.ptr ≠ s.buflen →
      t.ptr.toNat = s.ptr.toNat + 1) ∧
    (¬((s.st = .hunt ∨ s.st = .ident ∨ s.st = .capt) ∧ s.ptr ≠ s.buflen) → t.ptr = s.ptr) ∧
    t.buf = s.buf ∧ t.buflen = s.buflen

/-- Only DECODE, a field's own stage, an accepted START and RESET change an ENS register (10_state.md
R32, 42_field_decoder.md R188, log entry 6). For every operation that answers a next state: if
ENS[k] differs afterwards, the operation is DECODE, RESET, an accepted START, or the stage of that
very field. R32 lets DECODE alone write these registers, and reset and an accepted START clear
them; that a stage can also run alone, and then writes its own register, is the model's choice
(log entry 6, unsafe if taken for a host's move). -/
def Obligations.WhoWritesTheEnsemble : Prop :=
  ∀ (i : Instr) (s t : State) (f : Field), exec i s = .next t →
    ensGet t.ens f ≠ ensGet s.ens f →
    i = .decode ∨ i = .reset ∨ i = stageOf f ∨
      (∃ nf, i = .start nf ∧ (s.st = .idle ∨ s.st = .done))

/-- STATUS changes only by an operation that leaves ST = DONE, an accepted START or RESET (10_state.md
R33, 60_exceptions.md R219). For every operation that answers a next state: if STATUS differs
afterwards, either ST = DONE with a code, or the operation is RESET or an accepted START 5 and
STATUS is unwritten. -/
def Obligations.WhoWritesStatus : Prop :=
  ∀ (i : Instr) (s t : State), exec i s = .next t → t.status ≠ s.status →
    (t.st = .done ∧ t.status ≠ none) ∨
    (t.status = none ∧ (i = .reset ∨ (i = .start 5#8 ∧ (s.st = .idle ∨ s.st = .done))))

/-- Every transition of ST, with the operation that makes it and the STATUS it writes
(43_acquisition.md R200, log entry 6, log entry 9). The table of R200, for every operation and
every pair of states with exec i s = next t; RDSTAT, RDFLD, NOP and an ignored START or DELIVER
leave ST and STATUS as they are. That the stages, PD5 and the pure functions, which R200 does not
list, are operations that leave ST and STATUS as they are is the model's choice (log entry 6). In
the row of ID.MATCH, OFF = PTR - 1 is taken on 8 bits, so at PTR = 0, which R35 excludes in ID, it
is 255: the model's choice (log entry 9). -/
def Obligations.TransitionRelation : Prop :=
  ∀ (i : Instr) (s t : State), exec i s = .next t →
    match i with
    | .reset => t.st = .idle ∧ t.status = none
    | .start nf =>
      if s.st = .idle ∨ s.st = .done then
        if nf = 5#8 then t.st = .waitrx ∧ t.status = none
        else t.st = .done ∧ t.status = some .unsupportedFormat
      else t.st = s.st ∧ t.status = s.status
    | .deliver d =>
      if s.st = .waitrx then
        if d.length = 0 then t.st = .done ∧ t.status = some .portUnresponsive
        else if d.length ≤ 254 then t.st = .done ∧ t.status = some .streamTruncated
        else d.length = 255 ∧ t.st = .hunt ∧ t.status = s.status
      else t.st = s.st ∧ t.status = s.status
    | .huntEnd => s.st = .hunt ∧ s.ptr = s.buflen ∧ t.st = .done ∧ t.status = some .frameNotFound
    | .huntSkip => s.st = .hunt ∧ s.buf.read s.ptr.toNat ≠ some 0x7D#8 ∧ t.st = .hunt ∧
        t.status = s.status
    | .huntId => s.st = .hunt ∧ s.buf.read s.ptr.toNat = some 0x7D#8 ∧ t.st = .ident ∧
        t.status = s.status
    | .idEnd => s.st = .ident ∧ s.ptr = s.buflen ∧ t.st = .done ∧ t.status = some .frameNotFound
    | .idMatch => s.st = .ident ∧ s.buf.read s.ptr.toNat = some 0x01#8 ∧
        (if (s.ptr - 1#8).toNat + 88 > s.buflen.toNat
          then t.st = .done ∧ t.status = some .streamTruncated
          else t.st = .capt ∧ t.status = s.status)
    | .idAgain => s.st = .ident ∧ s.buf.read s.ptr.toNat = some 0x7D#8 ∧ t.st = .ident ∧
        t.status = s.status
    | .idMiss => s.st = .ident ∧ s.buf.read s.ptr.toNat ≠ some 0x01#8 ∧
        s.buf.read s.ptr.toNat ≠ some 0x7D#8 ∧ t.st = .hunt ∧ t.status = s.status
    | .captLenlo | .captLenhi | .captBody | .captCklo => s.st = .capt ∧ 2 ≤ s.cnt.toNat ∧
        s.cnt.toNat ≤ 86 ∧ t.st = .capt ∧ t.status = s.status
    | .captCkhi => s.st = .capt ∧ s.cnt.toNat = 87 ∧ t.st = .check ∧ t.status = s.status
    | .check => s.st = .check ∧
        (if s.sum = s.ckrx then t.st = .decode ∧ t.status = s.status
          else t.st = .done ∧ t.status = some .checksumMismatch)
    | .decode => s.st = .decode ∧ t.st = .done ∧ t.status = some .success
    | _ => t.st = s.st ∧ t.status = s.status

/-- RxRequest is recorded by an accepted START 5, once, and by nothing else (43_acquisition.md R192,
43_acquisition.md R196, 10_state.md R38). For every operation that answers a next state, the
number of RxRequest events in the history grows by one when it is START 5 in IDLE or DONE, and
does not change otherwise. The history is the model's record (log entry 5). -/
def Obligations.RequestsAreOnePerAcceptedStart : Prop :=
  ∀ (i : Instr) (s t : State), exec i s = .next t →
    let requests := fun h : List Event => h.countP fun
      | .rxRequest _ => true
      | _ => false
    (i = .start 5#8 ∧ (s.st = .idle ∨ s.st = .done) →
      requests t.history = requests s.history + 1) ∧
    (¬(i = .start 5#8 ∧ (s.st = .idle ∨ s.st = .done)) →
      requests t.history = requests s.history)

/-- From a START on, what two blocks show does not depend on what they held before it (10_state.md
R37, 10_state.md R36, 60_exceptions.md R222). Two states with ST = IDLE or DONE and the same
pending port inputs, the first of them a START, but otherwise anything in BUF, FRAME, ENS and the
registers: after every number of steps that the one takes, the other takes them too and ST, STATUS
and ENS are equal. -/
def Obligations.CyclesDoNotDependOnThePast : Prop :=
  ∀ (s s' : State) (nf : BitVec 8) (rest : List Input),
    s.st = .idle ∨ s.st = .done → s'.st = .idle ∨ s'.st = .done →
    s.inputs = .command (commandWord 0b01#2 0#6 nf) :: rest → s'.inputs = s.inputs →
    (∀ x ∈ rest, x.fromPort = true) →
    ∀ k t, Host.Core.run Sys2Proof.core (k + 1) s = .next t →
      ∃ t', Host.Core.run Sys2Proof.core (k + 1) s' = .next t' ∧
        t'.st = t.st ∧ t'.status = t.status ∧ t'.ens = t.ens
end

