-- ==== Sys2Proof/Laws/Decode.lean ====
section
/-! SUPPORT. The bit fields of a command word (`30_encoding.md` rule R83), the step and field
selections at the numbers of R87 and R88, and how the parameters of R5 hang together. -/

namespace Sys2Proof

theorem toNat_commandWord (c : BitVec 2) (k : BitVec 6) (a : BitVec 8) :
    (commandWord c k a).toNat = 16384 * c.toNat + 256 * k.toNat + a.toNat := by
  have hk := k.isLt
  have ha := a.isLt
  simp only [commandWord, BitVec.toNat_append]
  rw [← Nat.shiftLeft_add_eq_or_of_lt hk, ← Nat.shiftLeft_add_eq_or_of_lt ha, Nat.shiftLeft_eq,
    Nat.shiftLeft_eq]
  omega

@[simp] theorem cmdBits_commandWord (c : BitVec 2) (k : BitVec 6) (a : BitVec 8) :
    cmdBits (commandWord c k a) = c := by
  apply BitVec.eq_of_toNat_eq
  have hc := c.isLt
  have hk := k.isLt
  have ha := a.isLt
  simp only [cmdBits, BitVec.extractLsb'_toNat, toNat_commandWord, Nat.shiftRight_eq_div_pow]
  omega

@[simp] theorem fselBits_commandWord (c : BitVec 2) (k : BitVec 6) (a : BitVec 8) :
    fselBits (commandWord c k a) = k := by
  apply BitVec.eq_of_toNat_eq
  have hc := c.isLt
  have hk := k.isLt
  have ha := a.isLt
  simp only [fselBits, BitVec.extractLsb'_toNat, toNat_commandWord, Nat.shiftRight_eq_div_pow]
  omega

@[simp] theorem argBits_commandWord (c : BitVec 2) (k : BitVec 6) (a : BitVec 8) :
    argBits (commandWord c k a) = a := by
  apply BitVec.eq_of_toNat_eq
  have hc := c.isLt
  have hk := k.isLt
  have ha := a.isLt
  simp only [argBits, BitVec.extractLsb'_toNat, toNat_commandWord, Nat.shiftRight_eq_div_pow]
  omega

/-- The rows of HUNT in R87 at the bytes they name. -/
theorem decodeHunt_some (b : Byte) :
    decodeHunt (some b) = if b = 0x7D#8 then .huntId else .huntSkip := rfl

/-- The rows of ID in R87 at the bytes they name. -/
theorem decodeIdent_some (b : Byte) : decodeIdent (some b) =
    if b = 0x01#8 then .idMatch else if b = 0x7D#8 then .idAgain else .idMiss := rfl

/-- The rows of CAPT in R87 at the values of CNT they name. -/
theorem decodeCapt_eq (cnt : BitVec 7) : decodeCapt cnt =
    if cnt.toNat = 2 then .ok .captLenlo
    else if cnt.toNat = 3 then .ok .captLenhi
    else if 4 ≤ cnt.toNat ∧ cnt.toNat < 86 then .ok .captBody
    else if cnt.toNat = 86 then .ok .captCklo
    else if cnt.toNat = 87 then .ok .captCkhi
    else .error (.noStepSelected cnt) := rfl

/-- The fields of the table are NFIELDS in number (R5, R32). -/
theorem allFields_length : allFields.length = Config.nFields := rfl

/-- A selector of R88 selects the field at its place in the table, none from 41 on. -/
theorem fieldOfSelector_eq (k : BitVec 6) : fieldOfSelector k = allFields[k.toNat]? := by
  unfold fieldOfSelector
  split
  · rfl
  · next h => exact (List.getElem?_eq_none (by rw [allFields_length]; omega)).symm

/-- The header number of R81. -/
theorem headerPair_eq : Config.headerPair = 0x017D#16 := rfl

/-- The parameters that R5 derives from others. -/
theorem derived_parameters :
    Config.maxOff = Config.bufCap - Config.frameLen ∧ Config.sumLen = Config.ckOff ∧
      Config.ckOff + 2 = Config.frameLen ∧ Config.wBounds = Config.wPtr + 1 := by decide

end Sys2Proof
end

