-- ==== Sys2Proof/Laws/Memory.lean ====
section
/-! SUPPORT. The laws of BUF and FRAME as memories: read after write, the canonical form kept by every
operation, and what a loaded memory reads. -/

namespace Sys2Proof.Machine

@[simp] theorem Memory.read_nil (a : Nat) : Memory.read [] a = none := rfl

/-- Read after write: the written cell holds the byte, every other cell reads as before. -/
theorem Memory.read_write (m : Memory) (a c : Nat) (b : Byte) :
    (m.write a b).read c = if c = a then some b else m.read c := by
  induction m with
  | nil =>
    by_cases h : c = a
    · simp [Memory.write, Memory.read, h]
    · have h' : ¬ a = c := fun e => h e.symm
      simp [Memory.write, Memory.read, h, h']
  | cons x rest ih =>
    obtain ⟨k, v⟩ := x
    unfold Memory.write
    by_cases h1 : a < k
    · by_cases hc : c = a
      · simp [h1, Memory.read, hc]
      · have h' : ¬ a = c := fun e => hc e.symm
        simp [h1, Memory.read, hc, h']
    · by_cases h2 : a = k
      · by_cases hc : c = a
        · simp [h2, Memory.read, hc]
        · have h' : ¬ k = c := fun e => hc (h2.trans e).symm
          have hc' : ¬ c = k := fun e => h' e.symm
          simp [h2, Memory.read, h', hc']
      · by_cases hc : k = c
        · have : ¬ c = a := fun e => h2 (hc.trans e).symm
          subst hc
          simp [h1, h2, Memory.read, this]
        · simp [h1, h2, Memory.read, hc, ih]

@[simp] theorem Memory.read_write_same (m : Memory) (a : Nat) (b : Byte) :
    (m.write a b).read a = some b := by simp [Memory.read_write]

theorem Memory.read_write_other (m : Memory) (a c : Nat) (b : Byte) (h : c ≠ a) :
    (m.write a b).read c = m.read c := by simp [Memory.read_write, h]

theorem Memory.wf_tail {x : Host.Cell} {rest : Memory} (h : Memory.wf (x :: rest) = true) :
    Memory.wf rest = true := by
  cases rest with
  | nil => rfl
  | cons y rest => simp only [Memory.wf, Bool.and_eq_true] at h; exact h.2

/-- In front of a canonical memory only a lower index keeps the form. -/
theorem Memory.wf_cons {k : Nat} {v : Byte} {m : Memory} :
    Memory.wf ((k, v) :: m) = true ↔
      (∀ c ∈ m.head?, k < c.1) ∧ Memory.wf m = true := by
  cases m with
  | nil => simp [Memory.wf]
  | cons y rest => obtain ⟨a, b⟩ := y; simp [Memory.wf]

theorem Memory.head_write {m : Memory} {a : Nat} {b : Byte} {c : Host.Cell}
    (h : c ∈ (m.write a b).head?) : c.1 = a ∨ c ∈ m.head? := by
  cases m with
  | nil => simp only [Memory.write, List.head?_cons, Option.mem_def, Option.some.injEq] at h
           subst h; exact .inl rfl
  | cons x rest =>
    obtain ⟨k, v⟩ := x
    unfold Memory.write at h
    split at h
    · simp only [List.head?_cons, Option.mem_def, Option.some.injEq] at h; subst h; exact .inl rfl
    · split at h
      · simp only [List.head?_cons, Option.mem_def, Option.some.injEq] at h; subst h; exact .inl rfl
      · simp only [List.head?_cons, Option.mem_def, Option.some.injEq] at h; subst h
        exact .inr rfl

/-- A write keeps the canonical form. -/
theorem Memory.write_wf (m : Memory) (a : Nat) (b : Byte) (h : m.wf = true) :
    (m.write a b).wf = true := by
  induction m with
  | nil => rfl
  | cons x rest ih =>
    obtain ⟨k, v⟩ := x
    have ht := Memory.wf_tail h
    have hk := (Memory.wf_cons.mp h).1
    unfold Memory.write
    split
    · next hlt => exact Memory.wf_cons.mpr ⟨by simpa using hlt, h⟩
    · split
      · next _ he => subst he; exact Memory.wf_cons.mpr ⟨hk, ht⟩
      · next hlt hne =>
        refine Memory.wf_cons.mpr ⟨fun c hc => ?_, ih ht⟩
        rcases Memory.head_write hc with h1 | h1
        · omega
        · exact hk c h1

/-- A write inside the space keeps every listed cell inside it. -/
theorem Memory.write_within (cap : Nat) (m : Memory) (a : Nat) (b : Byte) (ha : a < cap)
    (h : m.within cap = true) : (m.write a b).within cap = true := by
  induction m with
  | nil => simp [Memory.write, Memory.within, ha]
  | cons x rest ih =>
    obtain ⟨k, v⟩ := x
    simp only [Memory.within, List.all_cons, Bool.and_eq_true, decide_eq_true_eq] at h ih ⊢
    unfold Memory.write
    split
    · simp [ha, h.1]; simpa using h.2
    · split
      · simp [ha]; simpa using h.2
      · simp only [List.all_cons, Bool.and_eq_true, decide_eq_true_eq]; exact ⟨h.1, ih h.2⟩

/-- What a loaded memory reads. -/
theorem Memory.read_loadFrom (l : List Byte) (a c : Nat) :
    (Memory.loadFrom a l).read c = if a ≤ c then l[c - a]? else none := by
  induction l generalizing a with
  | nil => simp [Memory.loadFrom]
  | cons b rest ih =>
    simp only [Memory.loadFrom, Memory.read, ih]
    rcases Nat.lt_trichotomy a c with h | h | h
    · have h1 : ¬ a = c := by omega
      have h2 : a + 1 ≤ c := h
      have h3 : a ≤ c := by omega
      have h4 : c - a = (c - (a + 1)) + 1 := by omega
      simp [h1, h2, h3, h4]
    · simp [h]
    · have h1 : ¬ a = c := by omega
      have h2 : ¬ a + 1 ≤ c := by omega
      have h3 : ¬ a ≤ c := by omega
      simp [h1, h2, h3]

/-- Cell j of a loaded memory holds the j-th byte. -/
@[simp] theorem Memory.read_load (l : List Byte) (j : Nat) : (Memory.load l).read j = l[j]? := by
  simp [Memory.load, Memory.read_loadFrom]

theorem Memory.loadFrom_wf (l : List Byte) (a : Nat) : (Memory.loadFrom a l).wf = true := by
  induction l generalizing a with
  | nil => rfl
  | cons b rest ih =>
    refine Memory.wf_cons.mpr ⟨fun c hc => ?_, ih (a + 1)⟩
    cases rest with
    | nil => simp [Memory.loadFrom] at hc
    | cons y ys =>
      simp only [Memory.loadFrom, List.head?_cons, Option.mem_def, Option.some.injEq] at hc
      subst hc; exact Nat.lt_succ_self a

/-- A loaded memory is in canonical form. -/
theorem Memory.load_wf (l : List Byte) : (Memory.load l).wf = true := Memory.loadFrom_wf l 0

theorem Memory.loadFrom_within (l : List Byte) (a cap : Nat) (h : a + l.length ≤ cap) :
    (Memory.loadFrom a l).within cap = true := by
  induction l generalizing a with
  | nil => rfl
  | cons b rest ih =>
    simp only [List.length_cons] at h
    simp only [Memory.loadFrom, Memory.within, List.all_cons, Bool.and_eq_true, decide_eq_true_eq]
    exact ⟨by omega, ih (a + 1) (by omega)⟩

/-- A loaded memory lies in a space that holds the list. -/
theorem Memory.load_within (l : List Byte) (cap : Nat) (h : l.length ≤ cap) :
    (Memory.load l).within cap = true := Memory.loadFrom_within l 0 cap (by omega)

end Sys2Proof.Machine
end

