-- ==== Sys2Proof/Laws/Operands.lean ====
section
/-! SUPPORT. The laws of the operand forms: the little-endian read, the ENS registers, and the 41
extractions together. -/

namespace Sys2Proof.Machine

/-- MemRead has a value exactly when every byte has one. -/
theorem memRead_isSome (m : Memory) (n j : Nat) :
    (memRead m j n).isSome = true ↔ ∀ i < n, (m.read (j + i)).isSome = true := by
  induction n generalizing j with
  | zero => simp [memRead]
  | succ n ih =>
    unfold memRead
    constructor
    · intro h i hi
      split at h
      · next lo hv hlo hhi =>
        cases i with
        | zero => simp [hlo]
        | succ i =>
          have := (ih (j + 1)).mp (by simp [hhi]) i (by omega)
          rwa [show j + (i + 1) = j + 1 + i by omega]
      · simp at h
    · intro h
      obtain ⟨lo, hlo⟩ := Option.isSome_iff_exists.mp (h 0 (by omega))
      obtain ⟨hv, hhi⟩ := Option.isSome_iff_exists.mp ((ih (j + 1)).mpr fun i hi => by
        have := h (i + 1) (by omega)
        rwa [show j + (i + 1) = j + 1 + i by omega] at this)
      rw [Nat.add_zero] at hlo
      simp [hlo, hhi]

/-- A byte above eight bits: the value of a concatenation. -/
theorem toNat_append_byte {n : Nat} (hi : BitVec n) (lo : Byte) :
    (hi ++ lo).toNat = lo.toNat + 256 * hi.toNat := by
  have h := lo.isLt
  rw [BitVec.toNat_append, ← Nat.shiftLeft_add_eq_or_of_lt h, Nat.shiftLeft_eq]
  omega

/-- One more byte of a read is the low byte of the value: the value is little-endian (R62). -/
theorem memRead_succ_toNat {m : Memory} {j n : Nat} {v : BitVec (8 * (n + 1))}
    (h : memRead m j (n + 1) = some v) :
    ∃ lo hi, m.read j = some lo ∧ memRead m (j + 1) n = some hi ∧
      v.toNat = lo.toNat + 256 * hi.toNat := by
  unfold memRead at h
  split at h
  · next lo hi h1 h2 =>
    cases h
    exact ⟨lo, hi, h1, h2, toNat_append_byte hi lo⟩
  · cases h

/-- The one-byte read is the byte. -/
theorem memRead_one {m : Memory} {j : Nat} {a : Byte} (h : m.read j = some a) :
    memRead m j 1 = some a := by
  have : (0#0 ++ a : BitVec (0 + 8)).toNat = a.toNat := by rw [toNat_append_byte]; simp
  simp only [memRead, h, Option.some.injEq]
  exact BitVec.eq_of_toNat_eq this

/-- `lo | hi << 8`, as numbers. -/
theorem or_shift_two (a b : Byte) :
    (zext 16 a ||| zext 16 b <<< 8).toNat = a.toNat + 256 * b.toNat := by
  have h1 := a.isLt
  have h2 := b.isLt
  have h3 : b.toNat <<< 8 % 65536 = b.toNat <<< 8 := by rw [Nat.shiftLeft_eq]; omega
  have h4 : b.toNat % 65536 = b.toNat := by omega
  have h5 : a.toNat % 65536 = a.toNat := by omega
  rw [BitVec.toNat_or, BitVec.toNat_shiftLeft, BitVec.toNat_setWidth, BitVec.toNat_setWidth]
  rw [h4, h5, h3, Nat.or_comm, ← Nat.shiftLeft_add_eq_or_of_lt h1, Nat.shiftLeft_eq]
  omega

/-- `b0 | b1 << 8 | b2 << 16 | b3 << 24`, as numbers. -/
theorem or_shift_four (a b c d : Byte) :
    (zext 32 a ||| zext 32 b <<< 8 ||| zext 32 c <<< 16 ||| zext 32 d <<< 24).toNat =
      a.toNat + 256 * b.toNat + 65536 * c.toNat + 16777216 * d.toNat := by
  have h1 := a.isLt
  have h2 := b.isLt
  have h3 := c.isLt
  have h4 := d.isLt
  have e1 : a.toNat % 2 ^ 32 = a.toNat := by omega
  have e2 : b.toNat % 2 ^ 32 = b.toNat := by omega
  have e3 : c.toNat % 2 ^ 32 = c.toNat := by omega
  have e4 : d.toNat % 2 ^ 32 = d.toNat := by omega
  have f2 : b.toNat <<< 8 % 2 ^ 32 = b.toNat <<< 8 := by rw [Nat.shiftLeft_eq]; omega
  have f3 : c.toNat <<< 16 % 2 ^ 32 = c.toNat <<< 16 := by rw [Nat.shiftLeft_eq]; omega
  have f4 : d.toNat <<< 24 % 2 ^ 32 = d.toNat <<< 24 := by rw [Nat.shiftLeft_eq]; omega
  simp only [BitVec.toNat_or, BitVec.toNat_shiftLeft, BitVec.toNat_setWidth, e1, e2, e3, e4, f2,
    f3, f4]
  rw [Nat.or_comm a.toNat, ← Nat.shiftLeft_add_eq_or_of_lt h1]
  have g : b.toNat <<< 8 + a.toNat < 2 ^ 16 := by rw [Nat.shiftLeft_eq]; omega
  rw [Nat.or_comm (b.toNat <<< 8 + a.toNat), ← Nat.shiftLeft_add_eq_or_of_lt g]
  have g' : c.toNat <<< 16 + (b.toNat <<< 8 + a.toNat) < 2 ^ 24 := by
    simp only [Nat.shiftLeft_eq]; omega
  rw [Nat.or_comm (c.toNat <<< 16 + _), ← Nat.shiftLeft_add_eq_or_of_lt g']
  simp only [Nat.shiftLeft_eq]
  omega

/-- The two-byte read is `lo | hi << 8` (R62, R141). -/
theorem memRead_two {m : Memory} {j : Nat} {a b : Byte}
    (ha : m.read j = some a) (hb : m.read (j + 1) = some b) :
    memRead m j 2 = some (zext 16 a ||| zext 16 b <<< 8) := by
  have h1 : memRead m (j + 1) 1 = some b := memRead_one hb
  have : (b ++ a : BitVec (8 + 8)).toNat = (zext 16 a ||| zext 16 b <<< 8).toNat := by
    rw [toNat_append_byte, or_shift_two]
  rw [memRead, ha, h1]
  exact congrArg some (BitVec.eq_of_toNat_eq this)

/-- The four-byte read is `b0 | b1 << 8 | b2 << 16 | b3 << 24` (R62, R141). -/
theorem memRead_four {m : Memory} {j : Nat} {a b c d : Byte}
    (ha : m.read j = some a) (hb : m.read (j + 1) = some b) (hc : m.read (j + 2) = some c)
    (hd : m.read (j + 3) = some d) :
    memRead m j 4 = some (zext 32 a ||| zext 32 b <<< 8 ||| zext 32 c <<< 16 ||| zext 32 d <<< 24) := by
  have h1 : memRead m (j + 2) 2 = some _ := memRead_two hc hd
  have : (((zext 16 c ||| zext 16 d <<< 8) ++ b : BitVec (16 + 8)) ++ a : BitVec (24 + 8)).toNat =
      (zext 32 a ||| zext 32 b <<< 8 ||| zext 32 c <<< 16 ||| zext 32 d <<< 24).toNat := by
    rw [toNat_append_byte, toNat_append_byte, or_shift_two, or_shift_four]; omega
  rw [memRead, ha, memRead, hb, h1]
  exact congrArg some (BitVec.eq_of_toNat_eq this)

/-- A written ENS register reads back. -/
@[simp] theorem ensGet_ensSet_same (e : Ensemble) (f : Field) (v : Option (BitVec (fieldWidth f))) :
    ensGet (ensSet e f v) f = v := by cases f <;> rfl

/-- Writing one ENS register leaves every other one as it was. -/
theorem ensGet_ensSet_other (e : Ensemble) (f g : Field) (h : g ≠ f)
    (v : Option (BitVec (fieldWidth f))) : ensGet (ensSet e f v) g = ensGet e g := by
  cases f <;> cases g <;> first | rfl | exact absurd rfl h

/-- Two ensembles with the same registers are the same. -/
theorem ensemble_ext {a b : Ensemble} (h : ∀ f, ensGet a f = ensGet b f) : a = b := by
  cases a
  cases b
  simp only [Ensemble.mk.injEq]
  exact ⟨h .id, h .format, h .byteCount, h .systemConfig, h .velBottomX, h .velBottomY, h .velBottomZ, h .velBottomE, h .rangeBeam1, h .rangeBeam2, h .rangeBeam3, h .rangeBeam4, h .bottomStatus, h .velWaterMass1, h .velWaterMass2, h .velWaterMass3, h .velWaterMass4, h .refLayerStart, h .refLayerEnd, h .refLayerStatus, h .tofpHour, h .tofpMin, h .tofpSec, h .tofpErr, h .bitResult, h .speedOfSound, h .temperature, h .salinity, h .depth, h .pitch, h .roll, h .heading, h .dmgBottomE, h .dmgBottomN, h .dmgBottomUp, h .dmgBottomErr, h .dmgWaterE, h .dmgWaterN, h .dmgWaterUp, h .dmgWaterErr, h .checksum⟩

@[simp] theorem ensGet_unwritten (f : Field) : ensGet Ensemble.unwritten f = none := by
  cases f <;> rfl

/-- Every field stands in the list of the 41. -/
theorem mem_allFields (f : Field) : f ∈ allFields := by cases f <;> decide

/-- The stages succeed together exactly when each has its bytes. -/
theorem extractInto_isSome (frame : Memory) (fs : List Field) (e : Ensemble) :
    (extractInto frame fs e).isSome = true ↔
      ∀ f ∈ fs, (extractField frame f).isSome = true := by
  induction fs generalizing e with
  | nil => simp [extractInto]
  | cons f rest ih =>
    unfold extractInto
    cases hf : extractField frame f with
    | none => simp [hf]
    | some v => simp [hf, ih]

/-- What the stages write: each of theirs holds its pattern, every other register is as before. -/
theorem extractInto_get {frame : Memory} {fs : List Field} {e e' : Ensemble}
    (h : extractInto frame fs e = some e') (f : Field) :
    ensGet e' f = if f ∈ fs then extractField frame f else ensGet e f := by
  induction fs generalizing e with
  | nil => simp only [extractInto, Option.some.injEq] at h; simp [h]
  | cons g rest ih =>
    unfold extractInto at h
    cases hg : extractField frame g with
    | none => simp [hg] at h
    | some v =>
      rw [hg] at h
      rw [ih h]
      by_cases hr : f ∈ rest
      · simp [hr]
      · by_cases hfg : f = g
        · subst hfg; simp [hr, hg]
        · simp [hr, hfg, ensGet_ensSet_other _ _ _ hfg]

/-- The registers DECODEFN delivers are the 41 patterns (R140). -/
theorem extractAll_get {frame : Memory} {e : Ensemble} (h : extractAll frame = some e) (f : Field) :
    ensGet e f = extractField frame f := by
  rw [extractInto_get h f, if_pos (mem_allFields f)]

/-- DECODEFN has a value on every frame of which all 88 bytes have one. -/
theorem extractAll_isSome {frame : Memory} (h : ∀ j < 88, (frame.read j).isSome = true) :
    (extractAll frame).isSome = true := by
  refine (extractInto_isSome _ _ _).mpr fun f _ => (memRead_isSome _ _ _).mpr fun i hi => h _ ?_
  cases f <;> simp only [fieldOffset, fieldBytes] at * <;> omega

/-- `w[7:0] <- b` as a number (R122, R125). -/
theorem withLow_toNat (w : BitVec 16) (b : Byte) :
    (withLow w b).toNat = 256 * (w.toNat / 256) + b.toNat := by
  have hb := b.isLt
  have hw := w.isLt
  simp only [withLow, BitVec.toNat_append, BitVec.extractLsb'_toNat, Nat.shiftRight_eq_div_pow]
  rw [← Nat.shiftLeft_add_eq_or_of_lt hb, Nat.shiftLeft_eq]
  omega

/-- `w[15:8] <- b` as a number (R123, R126). -/
theorem withHigh_toNat (w : BitVec 16) (b : Byte) :
    (withHigh w b).toNat = 256 * b.toNat + w.toNat % 256 := by
  have hw := w.isLt
  have hl := (w.extractLsb' 0 8).isLt
  simp only [withHigh, BitVec.toNat_append]
  rw [← Nat.shiftLeft_add_eq_or_of_lt hl, Nat.shiftLeft_eq]
  simp only [BitVec.extractLsb'_toNat, Nat.shiftRight_zero]
  omega

/-- The low byte of a 16-bit number. -/
theorem lowByte_toNat (w : BitVec 16) : (w.extractLsb' 0 8).toNat = w.toNat % 256 := by
  simp only [BitVec.extractLsb'_toNat, Nat.shiftRight_zero]

/-- The high byte of a 16-bit number. -/
theorem highByte_toNat (w : BitVec 16) : (w.extractLsb' 8 8).toNat = w.toNat / 256 := by
  have hw := w.isLt
  simp only [BitVec.extractLsb'_toNat, Nat.shiftRight_eq_div_pow]
  omega

@[simp] theorem lowByte_withLow (w : BitVec 16) (b : Byte) : (withLow w b).extractLsb' 0 8 = b := by
  apply BitVec.eq_of_toNat_eq
  rw [lowByte_toNat, withLow_toNat]
  omega

@[simp] theorem lowByte_withHigh (w : BitVec 16) (b : Byte) :
    (withHigh w b).extractLsb' 0 8 = w.extractLsb' 0 8 := by
  apply BitVec.eq_of_toNat_eq
  rw [lowByte_toNat, lowByte_toNat, withHigh_toNat]
  omega

@[simp] theorem highByte_withHigh (w : BitVec 16) (b : Byte) :
    (withHigh w b).extractLsb' 8 8 = b := by
  apply BitVec.eq_of_toNat_eq
  have hw := w.isLt
  rw [highByte_toNat, withHigh_toNat]
  omega

/-- DECODEFN has a value only where every stage has. -/
theorem extractAll_field_isSome {frame : Memory} {e : Ensemble} (h : extractAll frame = some e)
    (f : Field) : (ensGet e f).isSome = true := by
  rw [extractAll_get h f]
  exact (extractInto_isSome frame allFields Ensemble.unwritten).mp
    (by rw [show extractInto frame allFields Ensemble.unwritten = some e from h]; rfl) f
    (mem_allFields f)

end Sys2Proof.Machine
end

