-- ==== Sys2Proof/Laws/State.lean ====
section
/-! SUPPORT. One lemma per field and per named update of State, each true by `rfl`. -/

namespace Sys2Proof.Machine

variable (s : State)

@[simp] theorem State.advance_st : s.advance.st = s.st := rfl
@[simp] theorem State.advance_numformat : s.advance.numformat = s.numformat := rfl
@[simp] theorem State.advance_buf : s.advance.buf = s.buf := rfl
@[simp] theorem State.advance_buflen : s.advance.buflen = s.buflen := rfl
@[simp] theorem State.advance_ptr : s.advance.ptr = s.ptr + 1#8 := rfl
@[simp] theorem State.advance_off : s.advance.off = s.off := rfl
@[simp] theorem State.advance_cnt : s.advance.cnt = s.cnt := rfl
@[simp] theorem State.advance_len : s.advance.len = s.len := rfl
@[simp] theorem State.advance_sum : s.advance.sum = s.sum := rfl
@[simp] theorem State.advance_ckrx : s.advance.ckrx = s.ckrx := rfl
@[simp] theorem State.advance_frame : s.advance.frame = s.frame := rfl
@[simp] theorem State.advance_ens : s.advance.ens = s.ens := rfl
@[simp] theorem State.advance_status : s.advance.status = s.status := rfl
@[simp] theorem State.advance_inputs : s.advance.inputs = s.inputs := rfl
@[simp] theorem State.advance_history : s.advance.history = s.history := rfl
@[simp] theorem State.advance_draws : s.advance.draws = s.draws := rfl

@[simp] theorem State.emit_st (e : Event) : (s.emit e).st = s.st := rfl
@[simp] theorem State.emit_numformat (e : Event) : (s.emit e).numformat = s.numformat := rfl
@[simp] theorem State.emit_buf (e : Event) : (s.emit e).buf = s.buf := rfl
@[simp] theorem State.emit_buflen (e : Event) : (s.emit e).buflen = s.buflen := rfl
@[simp] theorem State.emit_ptr (e : Event) : (s.emit e).ptr = s.ptr := rfl
@[simp] theorem State.emit_off (e : Event) : (s.emit e).off = s.off := rfl
@[simp] theorem State.emit_cnt (e : Event) : (s.emit e).cnt = s.cnt := rfl
@[simp] theorem State.emit_len (e : Event) : (s.emit e).len = s.len := rfl
@[simp] theorem State.emit_sum (e : Event) : (s.emit e).sum = s.sum := rfl
@[simp] theorem State.emit_ckrx (e : Event) : (s.emit e).ckrx = s.ckrx := rfl
@[simp] theorem State.emit_frame (e : Event) : (s.emit e).frame = s.frame := rfl
@[simp] theorem State.emit_ens (e : Event) : (s.emit e).ens = s.ens := rfl
@[simp] theorem State.emit_status (e : Event) : (s.emit e).status = s.status := rfl
@[simp] theorem State.emit_inputs (e : Event) : (s.emit e).inputs = s.inputs := rfl
@[simp] theorem State.emit_history (e : Event) : (s.emit e).history = s.history ++ [e] := rfl
@[simp] theorem State.emit_draws (e : Event) : (s.emit e).draws = s.draws := rfl

@[simp] theorem State.raise_st (o : OutcomeCode) : (s.raise o).st = .done := rfl
@[simp] theorem State.raise_numformat (o : OutcomeCode) : (s.raise o).numformat = s.numformat := rfl
@[simp] theorem State.raise_buf (o : OutcomeCode) : (s.raise o).buf = s.buf := rfl
@[simp] theorem State.raise_buflen (o : OutcomeCode) : (s.raise o).buflen = s.buflen := rfl
@[simp] theorem State.raise_ptr (o : OutcomeCode) : (s.raise o).ptr = s.ptr := rfl
@[simp] theorem State.raise_off (o : OutcomeCode) : (s.raise o).off = s.off := rfl
@[simp] theorem State.raise_cnt (o : OutcomeCode) : (s.raise o).cnt = s.cnt := rfl
@[simp] theorem State.raise_len (o : OutcomeCode) : (s.raise o).len = s.len := rfl
@[simp] theorem State.raise_sum (o : OutcomeCode) : (s.raise o).sum = s.sum := rfl
@[simp] theorem State.raise_ckrx (o : OutcomeCode) : (s.raise o).ckrx = s.ckrx := rfl
@[simp] theorem State.raise_frame (o : OutcomeCode) : (s.raise o).frame = s.frame := rfl
@[simp] theorem State.raise_ens (o : OutcomeCode) : (s.raise o).ens = s.ens := rfl
@[simp] theorem State.raise_status (o : OutcomeCode) : (s.raise o).status = some o := rfl
@[simp] theorem State.raise_inputs (o : OutcomeCode) : (s.raise o).inputs = s.inputs := rfl
@[simp] theorem State.raise_history (o : OutcomeCode) : (s.raise o).history = s.history := rfl
@[simp] theorem State.raise_draws (o : OutcomeCode) : (s.raise o).draws = s.draws := rfl

@[simp] theorem State.reinit_st (nf : BitVec 8) : (s.reinit nf).st = s.st := rfl
@[simp] theorem State.reinit_numformat (nf : BitVec 8) : (s.reinit nf).numformat = nf := rfl
@[simp] theorem State.reinit_buf (nf : BitVec 8) : (s.reinit nf).buf = s.buf := rfl
@[simp] theorem State.reinit_buflen (nf : BitVec 8) : (s.reinit nf).buflen = 0#8 := rfl
@[simp] theorem State.reinit_ptr (nf : BitVec 8) : (s.reinit nf).ptr = 0#8 := rfl
@[simp] theorem State.reinit_off (nf : BitVec 8) : (s.reinit nf).off = 0#8 := rfl
@[simp] theorem State.reinit_cnt (nf : BitVec 8) : (s.reinit nf).cnt = 0#7 := rfl
@[simp] theorem State.reinit_len (nf : BitVec 8) : (s.reinit nf).len = 0#16 := rfl
@[simp] theorem State.reinit_sum (nf : BitVec 8) : (s.reinit nf).sum = 0#16 := rfl
@[simp] theorem State.reinit_ckrx (nf : BitVec 8) : (s.reinit nf).ckrx = 0#16 := rfl
@[simp] theorem State.reinit_frame (nf : BitVec 8) : (s.reinit nf).frame = s.frame := rfl
@[simp] theorem State.reinit_ens (nf : BitVec 8) : (s.reinit nf).ens = Ensemble.unwritten := rfl
@[simp] theorem State.reinit_status (nf : BitVec 8) : (s.reinit nf).status = none := rfl
@[simp] theorem State.reinit_inputs (nf : BitVec 8) : (s.reinit nf).inputs = s.inputs := rfl
@[simp] theorem State.reinit_history (nf : BitVec 8) : (s.reinit nf).history = s.history := rfl
@[simp] theorem State.reinit_draws (nf : BitVec 8) : (s.reinit nf).draws = s.draws := rfl

@[simp] theorem State.accumulate_st (b : Byte) : (s.accumulate b).st = s.st := rfl
@[simp] theorem State.accumulate_numformat (b : Byte) : (s.accumulate b).numformat = s.numformat := rfl
@[simp] theorem State.accumulate_buf (b : Byte) : (s.accumulate b).buf = s.buf := rfl
@[simp] theorem State.accumulate_buflen (b : Byte) : (s.accumulate b).buflen = s.buflen := rfl
@[simp] theorem State.accumulate_ptr (b : Byte) : (s.accumulate b).ptr = s.ptr := rfl
@[simp] theorem State.accumulate_off (b : Byte) : (s.accumulate b).off = s.off := rfl
@[simp] theorem State.accumulate_cnt (b : Byte) : (s.accumulate b).cnt = s.cnt := rfl
@[simp] theorem State.accumulate_len (b : Byte) : (s.accumulate b).len = s.len := rfl
@[simp] theorem State.accumulate_sum (b : Byte) : (s.accumulate b).sum = s.sum + zext 16 b := rfl
@[simp] theorem State.accumulate_ckrx (b : Byte) : (s.accumulate b).ckrx = s.ckrx := rfl
@[simp] theorem State.accumulate_frame (b : Byte) : (s.accumulate b).frame = s.frame := rfl
@[simp] theorem State.accumulate_ens (b : Byte) : (s.accumulate b).ens = s.ens := rfl
@[simp] theorem State.accumulate_status (b : Byte) : (s.accumulate b).status = s.status := rfl
@[simp] theorem State.accumulate_inputs (b : Byte) : (s.accumulate b).inputs = s.inputs := rfl
@[simp] theorem State.accumulate_history (b : Byte) : (s.accumulate b).history = s.history := rfl
@[simp] theorem State.accumulate_draws (b : Byte) : (s.accumulate b).draws = s.draws := rfl

@[simp] theorem State.consume_st : s.consume.st = s.st := rfl
@[simp] theorem State.consume_numformat : s.consume.numformat = s.numformat := rfl
@[simp] theorem State.consume_buf : s.consume.buf = s.buf := rfl
@[simp] theorem State.consume_buflen : s.consume.buflen = s.buflen := rfl
@[simp] theorem State.consume_ptr : s.consume.ptr = s.ptr := rfl
@[simp] theorem State.consume_off : s.consume.off = s.off := rfl
@[simp] theorem State.consume_cnt : s.consume.cnt = s.cnt := rfl
@[simp] theorem State.consume_len : s.consume.len = s.len := rfl
@[simp] theorem State.consume_sum : s.consume.sum = s.sum := rfl
@[simp] theorem State.consume_ckrx : s.consume.ckrx = s.ckrx := rfl
@[simp] theorem State.consume_frame : s.consume.frame = s.frame := rfl
@[simp] theorem State.consume_ens : s.consume.ens = s.ens := rfl
@[simp] theorem State.consume_status : s.consume.status = s.status := rfl
@[simp] theorem State.consume_inputs : s.consume.inputs = s.inputs.tail := rfl
@[simp] theorem State.consume_history : s.consume.history = s.history := rfl
@[simp] theorem State.consume_draws : s.consume.draws = s.draws := rfl

end Sys2Proof.Machine
end

