-- ==== Sys2Proof/Laws/Ops.lean ====
section
/-! SUPPORT. For each shared operation, one lemma that says once everything it can do. -/

namespace Sys2Proof.Machine

/-- BUF[PTR] answers a byte exactly when PTR < BUFLEN and the cell holds one. -/
theorem State.bufByte_ok {s : State} {b : Byte} :
    s.bufByte = .ok b ↔ s.ptr.toNat < s.buflen.toNat ∧ s.buf.read s.ptr.toNat = some b := by
  unfold State.bufByte
  split
  · next h =>
    have h' : s.ptr.toNat < s.buflen.toNat := h
    split
    · next b' hb => simp [hb, h']
    · next hb => simp [hb]
  · next h =>
    have h' : ¬ s.ptr.toNat < s.buflen.toNat := h
    simp [h']

/-- The look of a scan state: exhausted exactly when PTR = BUFLEN, else the byte at PTR. -/
theorem State.look_ok {s : State} {l : Option Byte} :
    s.look = .ok l ↔ (s.ptr = s.buflen ∧ l = none) ∨
      (∃ b, l = some b ∧ s.ptr.toNat < s.buflen.toNat ∧ s.buf.read s.ptr.toNat = some b) := by
  unfold State.look
  split
  · next h =>
    have hn : ¬ s.ptr.toNat < s.buflen.toNat := by rw [h]; exact Nat.lt_irrefl _
    constructor
    · intro e; cases e; exact .inl ⟨h, rfl⟩
    · rintro (⟨_, rfl⟩ | ⟨b, _, hlt, _⟩)
      · rfl
      · exact absurd hlt hn
  · next h =>
    split
    · next b hb =>
      have hb' := State.bufByte_ok.mp hb
      constructor
      · intro e; cases e; exact .inr ⟨b, rfl, hb'.1, hb'.2⟩
      · rintro (⟨h1, _⟩ | ⟨c, rfl, _, hc⟩)
        · exact absurd h1 h
        · rw [hb'.2] at hc; cases hc; rfl
    · next f hf =>
      constructor
      · intro e; cases e
      · rintro (⟨h1, _⟩ | ⟨c, rfl, hlt, hc⟩)
        · exact absurd h1 h
        · rw [State.bufByte_ok.mpr ⟨hlt, hc⟩] at hf; cases hf

/-- A meaning that reads BUF[PTR] goes on exactly as its continuation does with that byte. -/
theorem State.onByte_of_read {s : State} {k : Byte → Result} {b : Byte}
    (hlt : s.ptr.toNat < s.buflen.toNat) (hb : s.buf.read s.ptr.toNat = some b) :
    s.onByte k = k b := by
  simp [State.onByte, State.bufByte_ok.mpr ⟨hlt, hb⟩]

/-- It answers a next state only through such a byte. -/
theorem State.onByte_next {s t : State} {k : Byte → Result} (h : s.onByte k = .next t) :
    ∃ b, s.ptr.toNat < s.buflen.toNat ∧ s.buf.read s.ptr.toNat = some b ∧ k b = .next t := by
  unfold State.onByte at h
  split at h
  · next b hb => exact ⟨b, (State.bufByte_ok.mp hb).1, (State.bufByte_ok.mp hb).2, h⟩
  · cases h

/-- A capture step in its range of CNT, where the byte at PTR can be read. -/
theorem State.capture_of_read {s : State} {lo hi : Nat} {rest : Byte → State → State} {b : Byte}
    (hst : s.st = .capt) (hlo : lo ≤ s.cnt.toNat) (hhi : s.cnt.toNat ≤ hi)
    (hlt : s.ptr.toNat < s.buflen.toNat) (hb : s.buf.read s.ptr.toNat = some b) :
    s.capture lo hi rest = .next (rest b { s with
      frame := s.frame.write s.cnt.toNat b, ptr := s.ptr + 1#8, cnt := s.cnt + 1#7 }) := by
  simp [State.capture, hst, hlo, hhi, State.onByte_of_read hlt hb]

/-- A capture step answers a next state in no other way. -/
theorem State.capture_next {s t : State} {lo hi : Nat} {rest : Byte → State → State}
    (h : s.capture lo hi rest = .next t) :
    ∃ b, s.st = .capt ∧ lo ≤ s.cnt.toNat ∧ s.cnt.toNat ≤ hi ∧
      s.ptr.toNat < s.buflen.toNat ∧ s.buf.read s.ptr.toNat = some b ∧
      t = rest b { s with
        frame := s.frame.write s.cnt.toNat b, ptr := s.ptr + 1#8, cnt := s.cnt + 1#7 } := by
  unfold State.capture at h
  split at h
  · next hc =>
    obtain ⟨b, hlt, hb, he⟩ := State.onByte_next h
    cases he
    exact ⟨b, hc.1, hc.2.1, hc.2.2, hlt, hb, rfl⟩
  · cases h

/-- The meanings of the five capture steps at the numbers of R122 to R126. -/
theorem execCaptLenlo_eq (s : State) : execCaptLenlo s =
    s.capture 2 2 fun b t => ({ t with len := withLow t.len b } : State).accumulate b := rfl

theorem execCaptLenhi_eq (s : State) : execCaptLenhi s =
    s.capture 3 3 fun b t => ({ t with len := withHigh t.len b } : State).accumulate b := rfl

theorem execCaptBody_eq (s : State) : execCaptBody s =
    s.capture 4 85 fun b t => t.accumulate b := rfl

theorem execCaptCklo_eq (s : State) : execCaptCklo s =
    s.capture 86 86 fun b t => { t with ckrx := withLow t.ckrx b } := rfl

theorem execCaptCkhi_eq (s : State) : execCaptCkhi s =
    s.capture 87 87 fun b t => { t with ckrx := withHigh t.ckrx b, st := .check } := rfl

/-- The value of the accumulator after one accumulation (R121). -/
theorem State.accumulate_toNat (s : State) (b : Byte) :
    (s.accumulate b).sum.toNat = (s.sum.toNat + b.toNat) % 65536 := by
  have hb := b.isLt
  simp only [State.accumulate_sum, BitVec.toNat_add, BitVec.toNat_setWidth]
  omega

/-- The 9-bit bounds check is the exact comparison (R109, R245). -/
theorem frameRunsPast_iff (off buflen : BitVec 8) :
    frameRunsPast off buflen = true ↔ off.toNat + 88 > buflen.toNat := by
  have h1 := off.isLt
  have h2 := buflen.isLt
  simp only [frameRunsPast, decide_eq_true_eq, GT.gt, BitVec.lt_def, BitVec.toNat_add,
    BitVec.toNat_setWidth, BitVec.toNat_ofNat, Config.frameLen]
  omega

/-- The two outcomes of ID.MATCH (R109). -/
theorem matchFound_cases (s : State) :
    ((s.ptr - 1#8).toNat + 88 > s.buflen.toNat ∧
      matchFound s = { s with
        off := s.ptr - 1#8, ptr := s.ptr + 1#8, status := some .streamTruncated, st := .done }) ∨
    ((s.ptr - 1#8).toNat + 88 ≤ s.buflen.toNat ∧
      matchFound s = { s with
        off := s.ptr - 1#8, ptr := s.ptr + 1#8, frame := (s.frame.write 0 0x7D#8).write 1 0x01#8,
        sum := 0x007E#16, cnt := 2#7, st := .capt }) := by
  by_cases h : (s.ptr - 1#8).toNat + 88 > s.buflen.toNat
  · refine .inl ⟨h, ?_⟩
    have := (frameRunsPast_iff (s.ptr - 1#8) s.buflen).mpr h
    simp [matchFound, this, State.raise]
  · refine .inr ⟨by omega, ?_⟩
    have : frameRunsPast (s.ptr - 1#8) s.buflen = false := by
      by_contra hc
      exact h ((frameRunsPast_iff _ _).mp (by simpa using hc))
    simp [matchFound, this, Config.idByte, Config.fmtByte]

/-- A stage answers a next state exactly when its frame bytes hold values, and then writes one
register. -/
theorem runStage_next {f : Field} {s t : State} :
    runStage f s = .next t ↔ ∃ v, extractField s.frame f = some v ∧
      t = { s with ens := ensSet s.ens f (some v) } := by
  unfold runStage
  split
  · next v hv =>
    constructor
    · intro h; cases h; exact ⟨v, hv, rfl⟩
    · rintro ⟨w, hw, rfl⟩; rw [hv] at hw; cases hw; rfl
  · next hv =>
    constructor
    · intro h; cases h
    · rintro ⟨w, hw, _⟩; rw [hv] at hw; cases hw

end Sys2Proof.Machine
end

