-- ==== Sys2Proof/Laws/Inversion.lean ====
section
/-! SUPPORT. For each operation, one lemma that says from what state and to what state a next state can
come. -/

namespace Sys2Proof.Machine

theorem exec_nop_next {s t : State} (h : exec .nop s = .next t) : t = s := by cases h; rfl

theorem exec_start_next {nf : BitVec 8} {s t : State} (h : exec (.start nf) s = .next t) :
    (¬(s.st = .idle ∨ s.st = .done) ∧ t = s) ∨
    ((s.st = .idle ∨ s.st = .done) ∧ nf ≠ 5#8 ∧
      t = { s.reinit nf with status := some .unsupportedFormat, st := .done }) ∨
    ((s.st = .idle ∨ s.st = .done) ∧ nf = 5#8 ∧
      t = { s.reinit nf with st := .waitrx, history := s.history ++ [.rxRequest 255] }) := by
  simp only [exec, execStart] at h
  split at h
  · next hs =>
    split at h
    · next hn => cases h; exact .inr (.inr ⟨hs, hn, rfl⟩)
    · next hn => cases h; exact .inr (.inl ⟨hs, hn, rfl⟩)
  · next hs => cases h; exact .inl ⟨hs, rfl⟩

theorem exec_rdstat_next {s t : State} (h : exec .rdstat s = .next t) :
    t = { s with history := s.history ++ [.status (statusAnswer s)] } := by cases h; rfl

theorem exec_rdfld_next {k : BitVec 6} {s t : State} (h : exec (.rdfld k) s = .next t) :
    t = { s with history := s.history ++ [.field (fieldAnswer k s)] } := by cases h; rfl

theorem exec_deliver_next {d : List Byte} {s t : State} (h : exec (.deliver d) s = .next t) :
    d.length ≤ 255 ∧
    ((s.st ≠ .waitrx ∧ t = s) ∨
     (s.st = .waitrx ∧ d.length = 0 ∧
       t = { s with status := some .portUnresponsive, st := .done }) ∨
     (s.st = .waitrx ∧ 1 ≤ d.length ∧ d.length ≤ 254 ∧
       t = { s with status := some .streamTruncated, st := .done }) ∨
     (s.st = .waitrx ∧ d.length = 255 ∧
       t = { s with buf := Memory.load d, buflen := 255#8, ptr := 0#8, st := .hunt })) := by
  simp only [exec, execDeliver] at h
  split at h
  · next hf =>
    have hl : d.length ≤ 255 := of_decide_eq_true hf
    refine ⟨hl, ?_⟩
    split at h
    · next hs =>
      split at h
      · next h0 => cases h; exact .inr (.inl ⟨hs, h0, rfl⟩)
      · next h0 =>
        split at h
        · next h1 =>
          have h1' : d.length < 255 := h1
          cases h; exact .inr (.inr (.inl ⟨hs, by omega, by omega, rfl⟩))
        · next h1 =>
          have h1' : ¬d.length < 255 := h1
          have e : d.length = 255 := by omega
          rw [e] at h
          cases h; exact .inr (.inr (.inr ⟨hs, e, rfl⟩))
    · next hs => cases h; exact .inl ⟨hs, rfl⟩
  · cases h

theorem exec_huntEnd_next {s t : State} (h : exec .huntEnd s = .next t) :
    s.st = .hunt ∧ s.ptr = s.buflen ∧ t = { s with status := some .frameNotFound, st := .done } := by
  simp only [exec, execHuntEnd] at h
  split at h
  · next hs => cases h; exact ⟨hs.1, hs.2, rfl⟩
  · cases h

theorem exec_huntId_next {s t : State} (h : exec .huntId s = .next t) :
    s.st = .hunt ∧ s.ptr.toNat < s.buflen.toNat ∧ s.buf.read s.ptr.toNat = some 0x7D#8 ∧
      t = { s with ptr := s.ptr + 1#8, st := .ident } := by
  simp only [exec, execHuntId] at h
  split at h
  · next hs =>
    obtain ⟨b, hlt, hb, h⟩ := State.onByte_next h
    split at h
    · next e => cases h; subst e; exact ⟨hs, hlt, hb, rfl⟩
    · cases h
  · cases h

theorem exec_huntSkip_next {s t : State} (h : exec .huntSkip s = .next t) :
    s.st = .hunt ∧ s.ptr.toNat < s.buflen.toNat ∧
      (∃ b, s.buf.read s.ptr.toNat = some b ∧ b ≠ 0x7D#8) ∧ t = { s with ptr := s.ptr + 1#8 } := by
  simp only [exec, execHuntSkip] at h
  split at h
  · next hs =>
    obtain ⟨b, hlt, hb, h⟩ := State.onByte_next h
    split at h
    · cases h
    · next e => cases h; exact ⟨hs, hlt, ⟨b, hb, e⟩, rfl⟩
  · cases h

theorem exec_idEnd_next {s t : State} (h : exec .idEnd s = .next t) :
    s.st = .ident ∧ s.ptr = s.buflen ∧ t = { s with status := some .frameNotFound, st := .done } := by
  simp only [exec, execIdEnd] at h
  split at h
  · next hs => cases h; exact ⟨hs.1, hs.2, rfl⟩
  · cases h

theorem exec_idMatch_next {s t : State} (h : exec .idMatch s = .next t) :
    s.st = .ident ∧ s.ptr.toNat < s.buflen.toNat ∧ s.buf.read s.ptr.toNat = some 0x01#8 ∧
      t = matchFound s := by
  simp only [exec, execIdMatch] at h
  split at h
  · next hs =>
    obtain ⟨b, hlt, hb, h⟩ := State.onByte_next h
    split at h
    · next e => cases h; subst e; exact ⟨hs, hlt, hb, rfl⟩
    · cases h
  · cases h

theorem exec_idAgain_next {s t : State} (h : exec .idAgain s = .next t) :
    s.st = .ident ∧ s.ptr.toNat < s.buflen.toNat ∧ s.buf.read s.ptr.toNat = some 0x7D#8 ∧
      t = { s with ptr := s.ptr + 1#8 } := by
  simp only [exec, execIdAgain] at h
  split at h
  · next hs =>
    obtain ⟨b, hlt, hb, h⟩ := State.onByte_next h
    split at h
    · next e => cases h; subst e; exact ⟨hs, hlt, hb, rfl⟩
    · cases h
  · cases h

theorem exec_idMiss_next {s t : State} (h : exec .idMiss s = .next t) :
    s.st = .ident ∧ s.ptr.toNat < s.buflen.toNat ∧
      (∃ b, s.buf.read s.ptr.toNat = some b ∧ b ≠ 0x01#8 ∧ b ≠ 0x7D#8) ∧
      t = { s with ptr := s.ptr + 1#8, st := .hunt } := by
  simp only [exec, execIdMiss] at h
  split at h
  · next hs =>
    obtain ⟨b, hlt, hb, h⟩ := State.onByte_next h
    split at h
    · cases h
    · next e => cases h; exact ⟨hs, hlt, ⟨b, hb, fun hc => e (.inl hc), fun hc => e (.inr hc)⟩, rfl⟩
  · cases h

/-- What every capture step needs, and the part of its effect that they share. -/
theorem exec_capt_next {i : Instr} {s t : State}
    (hi : i = .captLenlo ∨ i = .captLenhi ∨ i = .captBody ∨ i = .captCklo ∨ i = .captCkhi)
    (h : exec i s = .next t) :
    s.st = .capt ∧ 2 ≤ s.cnt.toNat ∧ s.cnt.toNat ≤ 87 ∧ s.ptr.toNat < s.buflen.toNat ∧
    ∃ b, s.buf.read s.ptr.toNat = some b ∧
      { t with len := s.len, sum := s.sum, ckrx := s.ckrx, st := s.st } =
        { s with frame := s.frame.write s.cnt.toNat b, ptr := s.ptr + 1#8, cnt := s.cnt + 1#7 } ∧
      (s.cnt.toNat = 2 ∧ t.len = withLow s.len b ∧ t.sum = s.sum + zext 16 b ∧ t.ckrx = s.ckrx ∧
          t.st = .capt ∨
        s.cnt.toNat = 3 ∧ t.len = withHigh s.len b ∧ t.sum = s.sum + zext 16 b ∧ t.ckrx = s.ckrx ∧
          t.st = .capt ∨
        4 ≤ s.cnt.toNat ∧ s.cnt.toNat ≤ 85 ∧ t.len = s.len ∧ t.sum = s.sum + zext 16 b ∧
          t.ckrx = s.ckrx ∧ t.st = .capt ∨
        s.cnt.toNat = 86 ∧ t.len = s.len ∧ t.sum = s.sum ∧ t.ckrx = withLow s.ckrx b ∧
          t.st = .capt ∨
        s.cnt.toNat = 87 ∧ t.len = s.len ∧ t.sum = s.sum ∧ t.ckrx = withHigh s.ckrx b ∧
          t.st = .check) := by
  rcases hi with rfl | rfl | rfl | rfl | rfl
  · rw [exec, execCaptLenlo_eq] at h
    obtain ⟨b, hs, h1, h2, hlt, hb, rfl⟩ := State.capture_next h
    exact ⟨hs, h1, by omega, hlt, b, hb, rfl, .inl ⟨by omega, rfl, rfl, rfl, hs⟩⟩
  · rw [exec, execCaptLenhi_eq] at h
    obtain ⟨b, hs, h1, h2, hlt, hb, rfl⟩ := State.capture_next h
    exact ⟨hs, by omega, by omega, hlt, b, hb, rfl, .inr (.inl ⟨by omega, rfl, rfl, rfl, hs⟩)⟩
  · rw [exec, execCaptBody_eq] at h
    obtain ⟨b, hs, h1, h2, hlt, hb, rfl⟩ := State.capture_next h
    exact ⟨hs, by omega, by omega, hlt, b, hb, rfl,
      .inr (.inr (.inl ⟨h1, h2, rfl, rfl, rfl, hs⟩))⟩
  · rw [exec, execCaptCklo_eq] at h
    obtain ⟨b, hs, h1, h2, hlt, hb, rfl⟩ := State.capture_next h
    exact ⟨hs, by omega, by omega, hlt, b, hb, rfl,
      .inr (.inr (.inr (.inl ⟨by omega, rfl, rfl, rfl, hs⟩)))⟩
  · rw [exec, execCaptCkhi_eq] at h
    obtain ⟨b, hs, h1, h2, hlt, hb, rfl⟩ := State.capture_next h
    exact ⟨hs, by omega, by omega, hlt, b, hb, by rw [hs],
      .inr (.inr (.inr (.inr ⟨by omega, rfl, rfl, rfl, rfl⟩)))⟩

theorem exec_check_next {s t : State} (h : exec .check s = .next t) :
    s.st = .check ∧ ((s.sum = s.ckrx ∧ t = { s with st := .decode }) ∨
      (s.sum ≠ s.ckrx ∧ t = { s with status := some .checksumMismatch, st := .done })) := by
  simp only [exec, execCheck] at h
  split at h
  · next hs =>
    split at h
    · next e => cases h; exact ⟨hs, .inl ⟨e, rfl⟩⟩
    · next e => cases h; exact ⟨hs, .inr ⟨e, rfl⟩⟩
  · cases h

theorem exec_decode_next {s t : State} (h : exec .decode s = .next t) :
    s.st = .decode ∧ ∃ e, extractAll s.frame = some e ∧
      t = { s with ens := e, status := some .success, st := .done } := by
  simp only [exec, execDecode] at h
  split at h
  · next hs =>
    split at h
    · next e he => cases h; exact ⟨hs, e, he, rfl⟩
    · cases h
  · cases h

/-- A lone stage is `runStage` of its field. -/
theorem exec_stageOf (f : Field) (s : State) : exec (stageOf f) s = runStage f s := by
  cases f <;> rfl

theorem exec_reset_next {s t : State} (h : exec .reset s = .next t) :
    t = { State.reset with
      numformat := Config.freeNumformat s.draws,
      inputs := s.inputs, history := s.history, draws := s.draws + 1 } := by cases h; rfl

/-- The header match and the pure functions only record an answer, which is no request. -/
theorem exec_answer_next {i : Instr} {s t : State} (hi : i.format = .frame ∨ i.format = .pure)
    (h : exec i s = .next t) :
    ∃ e, (∀ n, e ≠ .rxRequest n) ∧ t = { s with history := s.history ++ [e] } := by
  cases i <;> first
    | (exfalso; simp [Instr.format] at hi; done)
    | skip
  case pd5 off =>
    simp only [exec, execPd5] at h
    split at h
    · split at h
      · cases h; exact ⟨_, fun _ => by simp, rfl⟩
      · cases h
    · cases h; exact ⟨_, fun _ => by simp, rfl⟩
  case sync =>
    simp only [exec, execSync] at h
    split at h
    · cases h; exact ⟨_, fun _ => by simp, rfl⟩
    · cases h
  case validate =>
    simp only [exec, execValidate] at h
    split at h
    · cases h; exact ⟨_, fun _ => by simp, rfl⟩
    · cases h
  case decodefn =>
    simp only [exec, execDecodefn] at h
    split at h
    · cases h; exact ⟨_, fun _ => by simp, rfl⟩
    · cases h
  case acquire =>
    simp only [exec, execAcquire] at h
    split at h
    · cases h; exact ⟨_, fun _ => by simp, rfl⟩
    · cases h

end Sys2Proof.Machine
end

