-- ==== Sys2Proof/Laws/PerInstr.lean ====
section
/-! SUPPORT. Statements made for every instruction, one lemma per constructor. -/

namespace Sys2Proof.Laws

/-- The encoder puts an operation on the signal of the format in which R86 lists it. -/
def EncodedFormat.Statement (i : Instr) : Prop := (encode i).format = i.format

theorem EncodedFormat.nop : EncodedFormat.Statement .nop := rfl
theorem EncodedFormat.start (nf : BitVec 8) : EncodedFormat.Statement (.start nf) := rfl
theorem EncodedFormat.rdstat : EncodedFormat.Statement .rdstat := rfl
theorem EncodedFormat.rdfld (k : BitVec 6) : EncodedFormat.Statement (.rdfld k) := rfl
theorem EncodedFormat.deliver (bytes : List Byte) : EncodedFormat.Statement (.deliver bytes) := rfl
theorem EncodedFormat.huntEnd : EncodedFormat.Statement .huntEnd := rfl
theorem EncodedFormat.huntId : EncodedFormat.Statement .huntId := rfl
theorem EncodedFormat.huntSkip : EncodedFormat.Statement .huntSkip := rfl
theorem EncodedFormat.idEnd : EncodedFormat.Statement .idEnd := rfl
theorem EncodedFormat.idMatch : EncodedFormat.Statement .idMatch := rfl
theorem EncodedFormat.idAgain : EncodedFormat.Statement .idAgain := rfl
theorem EncodedFormat.idMiss : EncodedFormat.Statement .idMiss := rfl
theorem EncodedFormat.captLenlo : EncodedFormat.Statement .captLenlo := rfl
theorem EncodedFormat.captLenhi : EncodedFormat.Statement .captLenhi := rfl
theorem EncodedFormat.captBody : EncodedFormat.Statement .captBody := rfl
theorem EncodedFormat.captCklo : EncodedFormat.Statement .captCklo := rfl
theorem EncodedFormat.captCkhi : EncodedFormat.Statement .captCkhi := rfl
theorem EncodedFormat.check : EncodedFormat.Statement .check := rfl
theorem EncodedFormat.decode : EncodedFormat.Statement .decode := rfl
theorem EncodedFormat.fxId : EncodedFormat.Statement .fxId := rfl
theorem EncodedFormat.fxFormat : EncodedFormat.Statement .fxFormat := rfl
theorem EncodedFormat.fxByteCount : EncodedFormat.Statement .fxByteCount := rfl
theorem EncodedFormat.fxSystemConfig : EncodedFormat.Statement .fxSystemConfig := rfl
theorem EncodedFormat.fxVelBottomX : EncodedFormat.Statement .fxVelBottomX := rfl
theorem EncodedFormat.fxVelBottomY : EncodedFormat.Statement .fxVelBottomY := rfl
theorem EncodedFormat.fxVelBottomZ : EncodedFormat.Statement .fxVelBottomZ := rfl
theorem EncodedFormat.fxVelBottomE : EncodedFormat.Statement .fxVelBottomE := rfl
theorem EncodedFormat.fxRangeBeam1 : EncodedFormat.Statement .fxRangeBeam1 := rfl
theorem EncodedFormat.fxRangeBeam2 : EncodedFormat.Statement .fxRangeBeam2 := rfl
theorem EncodedFormat.fxRangeBeam3 : EncodedFormat.Statement .fxRangeBeam3 := rfl
theorem EncodedFormat.fxRangeBeam4 : EncodedFormat.Statement .fxRangeBeam4 := rfl
theorem EncodedFormat.fxBottomStatus : EncodedFormat.Statement .fxBottomStatus := rfl
theorem EncodedFormat.fxVelWaterMass1 : EncodedFormat.Statement .fxVelWaterMass1 := rfl
theorem EncodedFormat.fxVelWaterMass2 : EncodedFormat.Statement .fxVelWaterMass2 := rfl
theorem EncodedFormat.fxVelWaterMass3 : EncodedFormat.Statement .fxVelWaterMass3 := rfl
theorem EncodedFormat.fxVelWaterMass4 : EncodedFormat.Statement .fxVelWaterMass4 := rfl
theorem EncodedFormat.fxRefLayerStart : EncodedFormat.Statement .fxRefLayerStart := rfl
theorem EncodedFormat.fxRefLayerEnd : EncodedFormat.Statement .fxRefLayerEnd := rfl
theorem EncodedFormat.fxRefLayerStatus : EncodedFormat.Statement .fxRefLayerStatus := rfl
theorem EncodedFormat.fxTofpHour : EncodedFormat.Statement .fxTofpHour := rfl
theorem EncodedFormat.fxTofpMin : EncodedFormat.Statement .fxTofpMin := rfl
theorem EncodedFormat.fxTofpSec : EncodedFormat.Statement .fxTofpSec := rfl
theorem EncodedFormat.fxTofpErr : EncodedFormat.Statement .fxTofpErr := rfl
theorem EncodedFormat.fxBitResult : EncodedFormat.Statement .fxBitResult := rfl
theorem EncodedFormat.fxSpeedOfSound : EncodedFormat.Statement .fxSpeedOfSound := rfl
theorem EncodedFormat.fxTemperature : EncodedFormat.Statement .fxTemperature := rfl
theorem EncodedFormat.fxSalinity : EncodedFormat.Statement .fxSalinity := rfl
theorem EncodedFormat.fxDepth : EncodedFormat.Statement .fxDepth := rfl
theorem EncodedFormat.fxPitch : EncodedFormat.Statement .fxPitch := rfl
theorem EncodedFormat.fxRoll : EncodedFormat.Statement .fxRoll := rfl
theorem EncodedFormat.fxHeading : EncodedFormat.Statement .fxHeading := rfl
theorem EncodedFormat.fxDmgBottomE : EncodedFormat.Statement .fxDmgBottomE := rfl
theorem EncodedFormat.fxDmgBottomN : EncodedFormat.Statement .fxDmgBottomN := rfl
theorem EncodedFormat.fxDmgBottomUp : EncodedFormat.Statement .fxDmgBottomUp := rfl
theorem EncodedFormat.fxDmgBottomErr : EncodedFormat.Statement .fxDmgBottomErr := rfl
theorem EncodedFormat.fxDmgWaterE : EncodedFormat.Statement .fxDmgWaterE := rfl
theorem EncodedFormat.fxDmgWaterN : EncodedFormat.Statement .fxDmgWaterN := rfl
theorem EncodedFormat.fxDmgWaterUp : EncodedFormat.Statement .fxDmgWaterUp := rfl
theorem EncodedFormat.fxDmgWaterErr : EncodedFormat.Statement .fxDmgWaterErr := rfl
theorem EncodedFormat.fxChecksum : EncodedFormat.Statement .fxChecksum := rfl
theorem EncodedFormat.pd5 (i : BitVec 8) : EncodedFormat.Statement (.pd5 i) := rfl
theorem EncodedFormat.reset : EncodedFormat.Statement .reset := rfl
theorem EncodedFormat.sync (buf : List Byte) : EncodedFormat.Statement (.sync buf) := rfl
theorem EncodedFormat.validate (f : List Byte) : EncodedFormat.Statement (.validate f) := rfl
theorem EncodedFormat.decodefn (f : List Byte) : EncodedFormat.Statement (.decodefn f) := rfl
theorem EncodedFormat.acquire (nf : BitVec 8) (d : List Byte) : EncodedFormat.Statement (.acquire nf d) := rfl

end Sys2Proof.Laws
end

