-- ==== Sys2Proof/Laws/Step.lean ====
section
/-! SUPPORT. What a step can be: the operation found, and which operations the block's ports and its
own sequencer can present. -/

namespace Sys2Proof.Machine

/-- A step that answers a next state is a wait, or the run of an operation it found and decoded. -/
theorem step_next {s t : State} (h : step s = .next t) :
    (s.fetch = .waiting ∧ t = s.consume) ∨
    ∃ sig i, s.fetch = .signal sig ∧ decode sig = .ok i ∧ exec i s.consume = .next t := by
  unfold step runFetched at h
  split at h
  · next hf => cases h; exact .inl ⟨hf, rfl⟩
  · cases h
  · next sig hf =>
    split at h
    · next i hi => exact .inr ⟨sig, i, hf, hi, h⟩
    · cases h

/-- Where nobody acts the fetch is the sequencer's own selection. -/
theorem fetch_of_ownStep {s : State} (h : s.ownStep) : s.fetch = selectStep s := by
  rcases h with h | ⟨rest, h⟩ <;> simp [State.fetch, h]

/-- The signal of a scan state, and what PTR, BUFLEN and the byte at PTR say of it. -/
theorem lookSignal_signal {s : State} {mk : Option Byte → Signal} {sig : Signal}
    (h : lookSignal s mk = .signal sig) :
    (sig = mk none ∧ s.ptr = s.buflen) ∨
    ∃ b, sig = mk (some b) ∧ s.ptr.toNat < s.buflen.toNat ∧ s.buf.read s.ptr.toNat = some b := by
  unfold lookSignal at h
  split at h
  · next l hl =>
    cases h
    rcases State.look_ok.mp hl with ⟨hp, rfl⟩ | ⟨b, rfl, hlt, hb⟩
    · exact .inl ⟨rfl, hp⟩
    · exact .inr ⟨b, rfl, hlt, hb⟩
  · cases h

/-- The sequencer selects STEP operations alone (R87). -/
theorem decode_of_selectStep {s : State} {sig : Signal} {i : Instr} (h : selectStep s = .signal sig)
    (hi : decode sig = .ok i) : i.format = .step := by
  unfold selectStep at h
  split at h
  · cases h
  · cases h
  · rcases lookSignal_signal h with ⟨rfl, -⟩ | ⟨b, rfl, -⟩
    · cases hi; rfl
    · simp only [decode, decodeHunt] at hi
      split at hi <;> cases hi <;> rfl
  · rcases lookSignal_signal h with ⟨rfl, -⟩ | ⟨b, rfl, -⟩
    · cases hi; rfl
    · simp only [decode, decodeIdent] at hi
      split at hi
      · cases hi; rfl
      · split at hi <;> cases hi <;> rfl
  · cases h
    simp only [decode, decodeCapt] at hi
    repeat' split at hi
    all_goals cases hi
    all_goals rfl
  · cases h; cases hi; rfl
  · cases h; cases hi; rfl
  · cases h

/-- From inputs that a port presents come HOST, XPORT, RESET and STEP operations alone. -/
theorem decode_of_ports {s : State} {sig : Signal} {i : Instr}
    (hp : ∀ x ∈ s.inputs, x.fromPort = true) (h : s.fetch = .signal sig) (hi : decode sig = .ok i) :
    i.format = .host ∨ i.format = .xport ∨ i.format = .reset ∨ i.format = .step := by
  unfold State.fetch at h
  split at h
  · exact .inr (.inr (.inr (decode_of_selectStep h hi)))
  · exact .inr (.inr (.inr (decode_of_selectStep h hi)))
  · next w _ hw =>
    cases h
    cases hi
    refine .inl ?_
    unfold decodeCommand
    split <;> rfl
  · cases h
    simp only [decode] at hi
    split at hi <;> cases hi
    exact .inr (.inl rfl)
  · cases h; cases hi; exact .inr (.inr (.inl rfl))
  · next x rest hx => have := hp _ (by rw [hx]; exact List.mem_cons_self); cases this
  · next x y rest hx => have := hp _ (by rw [hx]; exact List.mem_cons_self); cases this
  · next x rest hx => have := hp _ (by rw [hx]; exact List.mem_cons_self); cases this

@[simp] theorem consume_st (s : State) : s.consume.st = s.st := rfl
@[simp] theorem consume_ptr (s : State) : s.consume.ptr = s.ptr := rfl
@[simp] theorem consume_buflen (s : State) : s.consume.buflen = s.buflen := rfl
@[simp] theorem consume_buf (s : State) : s.consume.buf = s.buf := rfl
@[simp] theorem consume_cnt (s : State) : s.consume.cnt = s.cnt := rfl
@[simp] theorem consume_frame (s : State) : s.consume.frame = s.frame := rfl
@[simp] theorem consume_status (s : State) : s.consume.status = s.status := rfl
@[simp] theorem consume_ens (s : State) : s.consume.ens = s.ens := rfl
@[simp] theorem consume_inputs (s : State) : s.consume.inputs = s.inputs.tail := rfl

end Sys2Proof.Machine
end

