-- ==== Sys2Proof/Tests/Slice0.lean ====
section
/-! SUPPORT. Tests of the model against `95_test_vectors.md`, and for each statement with hypotheses a
concrete state that meets them. Vector names (V1, S1, K1, P1, ...) are those of that file. -/

namespace Sys2Proof.Tests

open Sys2Proof Sys2Proof.Machine

set_option Elab.async false

/-- The next state of an outcome. -/
def got : Result → Option State
  | .next s => some s
  | _ => none

/-- The fault of an outcome. -/
def faultOf : Result → Option Fault
  | .fault f => some f
  | _ => none

/-- The last event of an outcome's next state. -/
def lastEvent (r : Result) : Option Event := (got r).bind fun s => s.history.getLast?

/-- The reference frame F1 (V1), up to its 48th byte. -/
def frame1Low : List Byte :=
  [0x7D, 0x01, 0x55, 0x00, 0xB3, 0x00, 0x80, 0x2C, 0x01, 0xFF, 0xFF, 0xFF, 0x7F, 0x00, 0x00, 0x10,
   0x27, 0xFF, 0xFF, 0x00, 0x80, 0x00, 0x9C, 0xFF, 0x64, 0x00, 0x00, 0x80, 0x01, 0x00, 0x00, 0x00,
   0x34, 0x12, 0x00, 0x17, 0x3B, 0x3B, 0x63, 0x00, 0x00, 0xDC, 0x05, 0x18, 0xFC, 0x23, 0xE8, 0x03]

/-- The rest of F1 (V1). -/
def frame1High : List Byte :=
  [0xF6, 0xFF, 0x0A, 0x00, 0xA0, 0x8C, 0x78, 0x56, 0x34, 0x12, 0xFF, 0xFF, 0xFF, 0xFF, 0x00, 0x00,
   0x00, 0x80, 0x01, 0x00, 0x00, 0x00, 0x00, 0x01, 0x00, 0x00, 0x00, 0x00, 0x01, 0x00, 0x00, 0x00,
   0x00, 0x01, 0xEF, 0xBE, 0xAD, 0xDE, 0x14, 0x1B]

/-- F1 (V1). -/
def frame1 : List Byte := frame1Low ++ frame1High

/-- `00*n`. -/
def zeros (n : Nat) : List Byte := List.replicate n 0x00#8

/-- The delivery of P1: noise, F1 at offset 3, and bytes never read. -/
def delivery1 : List Byte := [0x7D#8, 0x00#8, 0x7D#8] ++ frame1 ++ List.replicate 164 0xAA#8

/-- A state of the scan: a buffer and PTR. -/
def scan (st : SeqState) (l : List Byte) (p : BitVec 8) : State :=
  { State.reset with
    st := st, buf := Memory.load l, buflen := BitVec.ofNat 8 l.length, ptr := p }

/-- F1 in the buffer, of which `n` bytes are captured, with the working registers given. -/
def captured (st : SeqState) (n : Nat) (len sum ckrx : BitVec 16) : State :=
  { State.reset with
    st := st, buf := Memory.load frame1, buflen := 88#8, ptr := BitVec.ofNat 8 n,
    cnt := BitVec.ofNat 7 n, len := len, sum := sum, ckrx := ckrx,
    frame := Memory.load (frame1.take n) }

/-- DONE with an outcome. -/
def done (o : OutcomeCode) : State := { State.reset with st := .done, status := some o }

/-- WAITRX, a request outstanding. -/
def waiting : State := { State.reset with st := .waitrx, numformat := 5#8 }

/-! ### Well-formedness: one ill-formed term for each check -/

theorem test_deliver_of_255_fits : (Instr.deliver (zeros 255)).wellFormed = true := by decide +kernel

theorem test_deliver_of_256_is_ill_formed : (Instr.deliver (zeros 256)).wellFormed = false := by
  decide +kernel

theorem test_sync_of_256_is_ill_formed : (Instr.sync (zeros 256)).wellFormed = false := by decide +kernel

theorem test_validate_of_87_is_ill_formed : (Instr.validate (zeros 87)).wellFormed = false := by
  decide

theorem test_decodefn_of_89_is_ill_formed : (Instr.decodefn (zeros 89)).wellFormed = false := by
  decide

theorem test_acquire_of_256_is_ill_formed : (Instr.acquire 5#8 (zeros 256)).wellFormed = false := by
  decide +kernel

/-! ### Decoding, from words written out from R83, R85, R87, R88, R81 -/

theorem test_decode_host :
    decode (.command 0b00_111111_11111111#16) = .ok .nop ∧
    decode (.command 0b01_111111_00000101#16) = .ok (.start 0b00000101#8) ∧
    decode (.command 0b10_111111_11111111#16) = .ok .rdstat ∧
    decode (.command 0b11_000100_11111111#16) = .ok (.rdfld 0b000100#6) := by decide

theorem test_decode_delivery :
    decode (.delivery [0x7D#8, 0x01#8, 0x00#8]) = .ok (.deliver [0x7D#8, 0x01#8, 0x00#8]) := by
  decide

theorem test_decode_overlong_delivery :
    decode (.delivery (zeros 256)) = .error (.overlongDelivery 256) := by decide +kernel

theorem test_decode_hunt :
    decode (.hunt none) = .ok .huntEnd ∧
    decode (.hunt (some 0b01111101#8)) = .ok .huntId ∧
    decode (.hunt (some 0b01111100#8)) = .ok .huntSkip := by decide

theorem test_decode_ident :
    decode (.ident none) = .ok .idEnd ∧
    decode (.ident (some 0b00000001#8)) = .ok .idMatch ∧
    decode (.ident (some 0b01111101#8)) = .ok .idAgain ∧
    decode (.ident (some 0b00000010#8)) = .ok .idMiss := by decide

theorem test_decode_capt :
    decode (.capt 0b0000010#7) = .ok .captLenlo ∧
    decode (.capt 0b0000011#7) = .ok .captLenhi ∧
    decode (.capt 0b0000100#7) = .ok .captBody ∧
    decode (.capt 0b1010101#7) = .ok .captBody ∧
    decode (.capt 0b1010110#7) = .ok .captCklo ∧
    decode (.capt 0b1010111#7) = .ok .captCkhi ∧
    decode (.capt 0b1011000#7) = .error (.noStepSelected 88#7) := by decide

theorem test_decode_check_decode :
    decode .check = .ok .check ∧ decode .decode = .ok .decode := by decide

theorem test_decode_stages_low :
    ∀ p ∈ [(0b000000#6, Instr.fxId), (0b000001#6, .fxFormat), (0b000010#6, .fxByteCount),
      (0b000011#6, .fxSystemConfig), (0b000100#6, .fxVelBottomX), (0b000101#6, .fxVelBottomY),
      (0b000110#6, .fxVelBottomZ), (0b000111#6, .fxVelBottomE), (0b001000#6, .fxRangeBeam1),
      (0b001001#6, .fxRangeBeam2), (0b001010#6, .fxRangeBeam3), (0b001011#6, .fxRangeBeam4),
      (0b001100#6, .fxBottomStatus), (0b001101#6, .fxVelWaterMass1),
      (0b001110#6, .fxVelWaterMass2), (0b001111#6, .fxVelWaterMass3),
      (0b010000#6, .fxVelWaterMass4), (0b010001#6, .fxRefLayerStart),
      (0b010010#6, .fxRefLayerEnd), (0b010011#6, .fxRefLayerStatus)],
    decode (.stage p.1) = .ok p.2 := by decide

theorem test_decode_stages_high :
    ∀ p ∈ [(0b010100#6, Instr.fxTofpHour), (0b010101#6, .fxTofpMin), (0b010110#6, .fxTofpSec),
      (0b010111#6, .fxTofpErr), (0b011000#6, .fxBitResult), (0b011001#6, .fxSpeedOfSound),
      (0b011010#6, .fxTemperature), (0b011011#6, .fxSalinity), (0b011100#6, .fxDepth),
      (0b011101#6, .fxPitch), (0b011110#6, .fxRoll), (0b011111#6, .fxHeading),
      (0b100000#6, .fxDmgBottomE), (0b100001#6, .fxDmgBottomN), (0b100010#6, .fxDmgBottomUp),
      (0b100011#6, .fxDmgBottomErr), (0b100100#6, .fxDmgWaterE), (0b100101#6, .fxDmgWaterN),
      (0b100110#6, .fxDmgWaterUp), (0b100111#6, .fxDmgWaterErr), (0b101000#6, .fxChecksum)],
    decode (.stage p.1) = .ok p.2 := by decide

theorem test_decode_reserved_selector :
    decode (.stage 0b101001#6) = .error (.reservedSelector 41#6) := by decide

theorem test_decode_header :
    decode (.header 0b00000001_01111101#16 3#8) = .ok (.pd5 3#8) ∧
    decode (.header 0b01111101_00000001#16 3#8) = .error (.notAFrameHeader 0x7D01#16) := by decide

theorem test_decode_reset : decode .resetLine = .ok .reset := by decide

theorem test_decode_calls :
    decode (.call (.sync [0x7D#8])) = .ok (.sync [0x7D#8]) ∧
    decode (.call (.validate frame1)) = .ok (.validate frame1) ∧
    decode (.call (.decodefn frame1)) = .ok (.decodefn frame1) ∧
    decode (.call (.acquire 5#8 [])) = .ok (.acquire 5#8 []) ∧
    decode (.call (.validate [])) = .error (.badSize 0) := by decide

theorem test_table_words :
    decodeTableWord 16 0x4005 = some (.start 5#8) ∧
    decodeTableWord 16 0x017D = some (.pd5 0#8) ∧
    decodeTableWord 8 0x28 = some .fxChecksum ∧
    decodeTableWord 8 0x7D = some .huntId := by decide

/-! ### Host operations, the transport and reset -/

/-- START 3 (P5): code 5, no request. -/
theorem test_start_unsupported :
    got (exec (.start 3#8) State.reset) =
      some { State.reset with numformat := 3#8, status := some .unsupportedFormat, st := .done } := by
  decide

/-- START 5 in IDLE (R190). -/
theorem test_start_requests :
    got (exec (.start 5#8) State.reset) =
      some { State.reset with numformat := 5#8, st := .waitrx, history := [.rxRequest 255] } := by
  decide

/-- START 3 in WAITRX is ignored (R196). -/
theorem test_start_while_busy : got (exec (.start 3#8) waiting) = some waiting := by decide

theorem test_nop : got (exec .nop (done .success)) = some (done .success) := by decide

/-- Section 6: after a checksum failure the status word is 0x84. -/
theorem test_rdstat_word : statusWord (statusAnswer (done .checksumMismatch)) = some 0x84#8 := by
  decide

/-- Section 6: in WAITRX bits 7 to 4 are 0b0110. -/
theorem test_rdstat_waitrx :
    lastEvent (exec .rdstat waiting) = some (.status ⟨false, true, true, false, none⟩) := by decide

/-- Section 5: reading field 4 of F1 sign-extends 0x8000; a reserved selector answers no value. -/
theorem test_rdfld :
    let s := { done .success with ens := { Ensemble.unwritten with velBottomX := some 0x8000#16 } }
    lastEvent (exec (.rdfld 4#6) s) = some (.field (some 0xFFFF8000#32)) ∧
    lastEvent (exec (.rdfld 41#6) s) = some (.field none) := by decide

/-- R193: an empty and a short delivery. -/
theorem test_deliver_short :
    got (exec (.deliver []) waiting) = some { waiting with status := some .portUnresponsive, st := .done } ∧
    got (exec (.deliver [0x7D#8, 0x01#8, 0x00#8]) waiting) =
      some { waiting with status := some .streamTruncated, st := .done } := by decide

/-- R193: a full delivery. -/
theorem test_deliver_full :
    ((got (exec (.deliver delivery1) waiting)).map fun s =>
      (s.st, s.buflen, s.buf.read 0, s.buf.read 254, s.buf.read 255)) =
      some (.hunt, 255#8, some 0x7D#8, some 0xAA#8, none) := by decide +kernel

theorem test_reset_forgets :
    ((got (exec .reset (done .success))).map fun s => (s.st, s.status, s.draws)) =
      some (.idle, none, 1) := by decide

/-! ### The scan (section 3) -/

/-- S1: an empty buffer. -/
theorem test_hunt_end :
    got (exec .huntEnd (scan .hunt [] 0#8)) =
      some { scan .hunt [] 0#8 with status := some .frameNotFound, st := .done } := by decide

/-- S12, first two steps: 0x01 in HUNT is ordinary, 0x7D enters ID. -/
theorem test_hunt_skip_and_id :
    got (exec .huntSkip (scan .hunt [0x01#8, 0x7D#8] 0#8)) = some (scan .hunt [0x01#8, 0x7D#8] 1#8) ∧
    got (exec .huntId (scan .hunt [0x01#8, 0x7D#8] 1#8)) = some (scan .ident [0x01#8, 0x7D#8] 2#8) := by
  decide

/-- S3: the buffer ends right after a 0x7D. -/
theorem test_id_end :
    got (exec .idEnd (scan .ident [0x7D#8] 1#8)) =
      some { scan .ident [0x7D#8] 1#8 with status := some .frameNotFound, st := .done } := by decide

/-- S6: an exact fit. -/
theorem test_id_match :
    ((got (exec .idMatch (scan .ident (0x7D#8 :: 0x01#8 :: zeros 86) 1#8))).map fun s =>
      (s.st, s.off, s.ptr, s.cnt, s.sum)) = some (.capt, 0#8, 2#8, 2#7, 0x007E#16) := by
  decide +kernel

/-- S7: one byte short; and S9's sum 256, which needs 9 bits (R245). -/
theorem test_id_match_truncated :
    ((got (exec .idMatch (scan .ident (0x7D#8 :: 0x01#8 :: zeros 85) 1#8))).map fun s =>
      (s.st, s.status, s.ptr, s.off)) = some (.done, some .streamTruncated, 2#8, 0#8) ∧
    frameRunsPast 168#8 255#8 = true ∧ frameRunsPast 167#8 255#8 = false := by decide +kernel

/-- S8 and S13. -/
theorem test_id_again_and_miss :
    got (exec .idAgain (scan .ident [0x7D#8, 0x7D#8] 1#8)) = some (scan .ident [0x7D#8, 0x7D#8] 2#8) ∧
    got (exec .idMiss (scan .ident [0x7D#8, 0x02#8] 1#8)) = some (scan .hunt [0x7D#8, 0x02#8] 2#8) := by
  decide

/-! ### Capture and checksum (sections 2 and 4) -/

/-- V1: LENLO and LENHI of F1. -/
theorem test_capt_length :
    got (exec .captLenlo (captured .capt 2 0#16 0x007E#16 0#16)) =
      some (captured .capt 3 0x0055#16 0x00D3#16 0#16) ∧
    got (exec .captLenhi (captured .capt 3 0x0055#16 0x00D3#16 0#16)) =
      some (captured .capt 4 0x0055#16 0x00D3#16 0#16) := by decide +kernel

/-- V1: the first and the last BODY step of F1. -/
theorem test_capt_body :
    got (exec .captBody (captured .capt 4 0x0055#16 0x00D3#16 0#16)) =
      some (captured .capt 5 0x0055#16 0x0186#16 0#16) ∧
    got (exec .captBody (captured .capt 85 0x0055#16 0x1A36#16 0#16)) =
      some (captured .capt 86 0x0055#16 0x1B14#16 0#16) := by decide +kernel

/-- P1: CKLO and CKHI of F1. -/
theorem test_capt_checksum :
    got (exec .captCklo (captured .capt 86 0x0055#16 0x1B14#16 0#16)) =
      some (captured .capt 87 0x0055#16 0x1B14#16 0x0014#16) ∧
    got (exec .captCkhi (captured .capt 87 0x0055#16 0x1B14#16 0x0014#16)) =
      some (captured .check 88 0x0055#16 0x1B14#16 0x1B14#16) := by decide +kernel

/-- Section 4, the accumulate law at its corners. -/
theorem test_accumulate :
    (({ State.reset with sum := 0x00FF#16 } : State).accumulate 0x01#8).sum = 0x0100#16 ∧
    (({ State.reset with sum := 0xFFFF#16 } : State).accumulate 0xFF#8).sum = 0x00FE#16 ∧
    (({ State.reset with sum := 0xFF80#16 } : State).accumulate 0x80#8).sum = 0x0000#16 := by decide

/-- R127's example. -/
theorem test_check :
    ((got (exec .check { State.reset with st := .check, sum := 0x01D2#16, ckrx := 0x01D2#16 })).map
      fun s => (s.st, s.status)) = some (.decode, none) ∧
    ((got (exec .check { State.reset with st := .check, sum := 0x01D2#16, ckrx := 0x01D3#16 })).map
      fun s => (s.st, s.status)) = some (.done, some .checksumMismatch) := by decide

/-! ### The field decoder: every FDATA of the table of V1 -/

/-- What RDFLD answers for a field once its stage has run on F1. -/
def stageData (f : Field) : Option (BitVec 32) :=
  (got (exec (stageOf f) (captured .decode 88 0x0055#16 0x1B14#16 0x1B14#16))).bind fun s =>
    (ensGet s.ens f).map (extendField f)

theorem test_stages_u8 :
    ∀ p ∈ [(Field.id, 0x7D#32), (.format, 0x01#32), (.systemConfig, 0xB3#32), (.bottomStatus, 0x00#32),
      (.refLayerStatus, 0x00#32), (.tofpHour, 0x17#32), (.tofpMin, 0x3B#32), (.tofpSec, 0x3B#32),
      (.tofpErr, 0x63#32), (.salinity, 0x23#32)], stageData p.1 = some p.2 := by decide +kernel

theorem test_stages_u16 :
    ∀ p ∈ [(Field.byteCount, 0x0055#32), (.rangeBeam1, 0x0000#32), (.rangeBeam2, 0x2710#32),
      (.rangeBeam3, 0xFFFF#32), (.rangeBeam4, 0x8000#32), (.refLayerStart, 0x0000#32),
      (.refLayerEnd, 0x1234#32), (.bitResult, 0x0000#32), (.speedOfSound, 0x05DC#32),
      (.depth, 0x03E8#32), (.checksum, 0x1B14#32)], stageData p.1 = some p.2 := by decide +kernel

theorem test_stages_s16 :
    ∀ p ∈ [(Field.velBottomX, 0xFFFF8000#32), (.velBottomY, 0x0000012C#32),
      (.velBottomZ, 0xFFFFFFFF#32), (.velBottomE, 0x00007FFF#32), (.velWaterMass1, 0xFFFFFF9C#32),
      (.velWaterMass2, 0x00000064#32), (.velWaterMass3, 0xFFFF8000#32), (.velWaterMass4, 0x00000001#32),
      (.temperature, 0xFFFFFC18#32), (.pitch, 0xFFFFFFF6#32), (.roll, 0x0000000A#32),
      (.heading, 0xFFFF8CA0#32)], stageData p.1 = some p.2 := by decide +kernel

theorem test_stages_u32 :
    ∀ p ∈ [(Field.dmgBottomE, 0x12345678#32), (.dmgBottomN, 0xFFFFFFFF#32), (.dmgBottomUp, 0x80000000#32),
      (.dmgBottomErr, 0x00000001#32), (.dmgWaterE, 0x00000100#32), (.dmgWaterN, 0x00010000#32),
      (.dmgWaterUp, 0x01000000#32), (.dmgWaterErr, 0xDEADBEEF#32)], stageData p.1 = some p.2 := by
  decide +kernel

/-- P1's last step: DECODE ends the cycle with Success, and RDFLD 31 answers 0xFFFF8CA0. -/
theorem test_decode_step :
    ((got (exec .decode (captured .decode 88 0x0055#16 0x1B14#16 0x1B14#16))).map fun s =>
      (s.st, s.status, s.ptr, fieldAnswer 31#6 s)) =
      some (.done, some .success, 88#8, some 0xFFFF8CA0#32) := by decide +kernel

/-! ### The header match and the pure functions -/

theorem test_pd5 :
    lastEvent (exec (.pd5 0#8) (scan .hunt [0x7D#8, 0x01#8] 0#8)) = some (.header true) ∧
    lastEvent (exec (.pd5 1#8) (scan .hunt [0x7D#8, 0x01#8] 0#8)) = some (.header false) := by decide

/-- S5 and S12. -/
theorem test_sync :
    lastEvent (exec (.sync [0x7D#8, 0x01#8]) State.reset) = some (.synced .streamTruncated) ∧
    lastEvent (exec (.sync ([0x01#8, 0x7D#8, 0x00#8, 0x7D#8, 0x01#8] ++ zeros 250)) State.reset) =
      some (.synced (.candidateFrame 3)) := by decide +kernel

/-- K3 and K8. -/
theorem test_validate :
    lastEvent (exec (.validate frame1) State.reset) = some (.validated .validatedFrame) ∧
    lastEvent (exec (.validate (frame1.set 87 0x9B#8)) State.reset) =
      some (.validated .checksumMismatch) := by decide +kernel

theorem test_decodefn :
    ((decodeFn frame1).bind fun e => e.heading) = some 0x8CA0#16 := by decide +kernel

/-- Section 6, ACQUIRE as a table. -/
theorem test_acquire :
    (acquireFn 3#8 delivery1).1 = .unsupportedFormat ∧
    (acquireFn 5#8 (frame1 ++ zeros 166)).1 = .streamTruncated ∧
    (acquireFn 5#8 (zeros 168 ++ frame1.take 87)).1 = .streamTruncated ∧
    acquireFn 5#8 (frame1 ++ zeros 167) = (.success, decodeFn frame1) := by decide +kernel

/-! ### Stops -/

theorem test_unselected_step :
    faultOf (exec .captBody (captured .capt 2 0#16 0x007E#16 0#16)) = some .stepNotEnabled := by
  decide +kernel

theorem test_unwritten_cells :
    faultOf (exec .fxHeading State.reset) = some (.frameUnwritten 52) ∧
    faultOf (exec .huntSkip { scan .hunt [] 0#8 with buflen := 1#8 }) = some (.bufUnwritten 0) ∧
    faultOf (exec .huntSkip (scan .hunt [] 0#8)) = some (.bufOutOfRange 0) := by decide

theorem test_reset_memory_is_canonical :
    State.reset.buf.wf = true ∧ State.reset.frame.wf = true := by decide

/-- Writing a cell twice leaves one entry, in place. -/
theorem test_memory_write :
    (Memory.load [0x11#8, 0x22#8, 0x33#8]).write 1 0x44#8 = [(0, 0x11#8), (1, 0x44#8), (2, 0x33#8)] ∧
    Memory.write [(5, 0x11#8)] 2 0x22#8 = [(2, 0x22#8), (5, 0x11#8)] := by decide

/-! ### Witnesses: for each statement with hypotheses, states and operands that meet them -/

/-- Every byte of F1 captured, the checksums equal. -/
def complete (st : SeqState) : State := captured st 88 0x0055#16 0x1B14#16 0x1B14#16

/-- Success on F1: DONE with the ensemble written. -/
def success : State :=
  { complete .done with status := some .success, ens := (decodeFn frame1).getD Ensemble.unwritten }

theorem witness_StepRunsDecodedOperation :
    State.fetch { State.reset with inputs := [.command 0x4005#16] } = .signal (.command 0x4005#16) ∧
    decode (.command 0x4005#16) = .ok (.start 5#8) ∧
    (scan .hunt [0x7D#8] 0#8).fetch = .signal (.hunt (some 0x7D#8)) ∧
    decode (.hunt (some 0x7D#8)) = .ok .huntId := by decide

theorem witness_PresentedInputsRunTheirOperation :
    ([] : List Byte).length ≤ 255 ∧ (zeros 255).length ≤ 255 := by decide +kernel

theorem witness_StatesWithoutAStepOnlyWait :
    State.reset.ownStep ∧ State.reset.st = .idle ∧ waiting.ownStep ∧ waiting.st = .waitrx ∧
    State.ownStep { done .success with inputs := [.tick] } ∧ (done .success).st = .done :=
  ⟨.inl rfl, rfl, .inl rfl, rfl, .inr ⟨[], rfl⟩, rfl⟩

theorem witness_SequencerStepSelection :
    (∀ s ∈ [scan .hunt [] 0#8, scan .hunt (zeros 255) 254#8, scan .hunt (zeros 255) 255#8,
      scan .ident [0x7D#8] 1#8, captured .capt 2 0#16 0#16 0#16, complete .check,
      complete .decode, waiting], s.inputs = []) ∧
    (scan .hunt (zeros 255) 255#8).ptr = (scan .hunt (zeros 255) 255#8).buflen ∧
    (scan .hunt (zeros 255) 254#8).ptr.toNat < (scan .hunt (zeros 255) 254#8).buflen.toNat ∧
    (scan .hunt (zeros 255) 254#8).buf.read 254 = some 0x00#8 ∧
    (scan .ident [0x7D#8] 1#8).ptr = (scan .ident [0x7D#8] 1#8).buflen ∧
    (scan .ident [0x7D#8, 0x01#8] 1#8).ptr.toNat < (scan .ident [0x7D#8, 0x01#8] 1#8).buflen.toNat ∧
    (scan .ident [0x7D#8, 0x01#8] 1#8).buf.read 1 = some 0x01#8 ∧
    (∀ n ∈ [2, 3, 4, 85, 86, 87], (captured .capt n 0#16 0#16 0#16).st = .capt ∧
      (captured .capt n 0#16 0#16 0#16).cnt.toNat = n) := by decide +kernel

theorem witness_DecodeOfEncodeIsTheInstruction :
    (Instr.deliver (zeros 255)).wellFormed = true ∧ (Instr.sync []).wellFormed = true ∧
    (Instr.validate frame1).wellFormed = true ∧ (Instr.decodefn frame1).wellFormed = true ∧
    (Instr.acquire 255#8 (zeros 255)).wellFormed = true ∧ (Instr.rdfld 63#6).wellFormed = true := by
  decide +kernel

theorem witness_SelectorsNumberTheFields :
    (0#6).toNat ≤ 40 ∧ (40#6).toNat ≤ 40 ∧ 41 ≤ (41#6).toNat ∧ 41 ≤ (63#6).toNat := by decide

theorem witness_NopAndBusyStartHaveNoEffect :
    waiting.st = .waitrx ∧ (scan .hunt [] 0#8).st = .hunt ∧ (scan .ident [] 0#8).st = .ident ∧
    (captured .capt 2 0#16 0#16 0#16).st = .capt ∧ (complete .check).st = .check ∧
    (complete .decode).st = .decode := by decide

theorem witness_StartWithOtherFormatFails :
    State.reset.st = .idle ∧ (done .success).st = .done ∧ 4#8 ≠ 5#8 ∧ 6#8 ≠ 5#8 ∧ 255#8 ≠ 5#8 := by
  decide

theorem witness_StartWithFormatFiveRequests : State.reset.st = .idle ∧ success.st = .done := by decide

theorem witness_DeliverInWaitrx :
    waiting.st = .waitrx ∧ ([] : List Byte).length = 0 ∧ 1 ≤ (zeros 1).length ∧
    (zeros 254).length ≤ 254 ∧ delivery1.length = 255 := by decide +kernel

theorem witness_DeliverElsewhereIsIgnored :
    success.st ≠ .waitrx ∧ delivery1.length ≤ 255 ∧ ([] : List Byte).length ≤ 255 := by decide +kernel

theorem witness_WrongSizesAreRefused :
    255 < (zeros 256).length ∧ (zeros 87).length ≠ 88 ∧ (zeros 89).length ≠ 88 := by decide +kernel

theorem witness_RdstatAnswersTheStatusWord :
    (done .unsupportedFormat).st = .done ∧
    (done .unsupportedFormat).status = some .unsupportedFormat ∧ success.st = .done ∧
    success.status = some .success ∧ State.reset.st ≠ .done ∧ waiting.st ≠ .done := by decide

theorem witness_RdfldAnswersOneField :
    success.st = .done ∧ success.status = some .success ∧
    fieldOfSelector 0#6 = some .id ∧ success.ens.id = some 0x7D#8 ∧
    fieldOfSelector 40#6 = some .checksum ∧ success.ens.checksum = some 0x1B14#16 := by
  decide +kernel

theorem witness_RdfldWithNothingToRead :
    ¬(State.reset.st = .done ∧ State.reset.status = some .success) ∧
    ¬((done .checksumMismatch).st = .done ∧ (done .checksumMismatch).status = some .success) ∧
    41 ≤ (41#6).toNat ∧ 41 ≤ (63#6).toNat := by decide

theorem witness_ReadPortShowsTheValue :
    fieldType .pitch = .s16 ∧ fieldType .id ≠ .s16 ∧ fieldWidth .depth < 32 ∧
    fieldWidth .dmgBottomE = 32 := by decide

theorem witness_HuntSteps :
    (scan .hunt (zeros 255) 255#8).st = .hunt ∧
    (scan .hunt (zeros 255) 255#8).ptr = (scan .hunt (zeros 255) 255#8).buflen ∧
    (scan .hunt (zeros 255) 254#8).ptr.toNat < (scan .hunt (zeros 255) 254#8).buflen.toNat ∧
    (scan .hunt (zeros 255) 254#8).buf.read 254 = some 0x00#8 ∧ 0x00#8 ≠ 0x7D#8 ∧
    (scan .hunt [0x7D#8] 0#8).ptr.toNat < (scan .hunt [0x7D#8] 0#8).buflen.toNat ∧
    (scan .hunt [0x7D#8] 0#8).buf.read 0 = some 0x7D#8 := by decide +kernel

theorem witness_IdentSteps :
    (scan .ident [0x7D#8] 1#8).st = .ident ∧
    (scan .ident [0x7D#8] 1#8).ptr = (scan .ident [0x7D#8] 1#8).buflen ∧
    (scan .ident [0x7D#8, 0x7D#8] 1#8).ptr.toNat < (scan .ident [0x7D#8, 0x7D#8] 1#8).buflen.toNat ∧
    (scan .ident [0x7D#8, 0x7D#8] 1#8).buf.read 1 = some 0x7D#8 ∧
    (scan .ident [0x7D#8, 0x02#8] 1#8).buf.read 1 = some 0x02#8 ∧ 0x02#8 ≠ 0x01#8 ∧
    0x02#8 ≠ 0x7D#8 := by decide

theorem witness_IdMatchFindsTheFrame :
    ∀ n ∈ [85, 86], ∀ s ∈ [scan .ident (0x7D#8 :: 0x01#8 :: zeros n) 1#8], s.st = .ident ∧
      1 ≤ s.ptr.toNat ∧ s.ptr.toNat < s.buflen.toNat ∧ s.buf.read s.ptr.toNat = some 0x01#8 ∧
      (n = 85 → s.ptr.toNat - 1 + 88 > s.buflen.toNat) ∧
      (n = 86 → s.ptr.toNat - 1 + 88 ≤ s.buflen.toNat) := by decide +kernel

theorem witness_CaptureOfTheDeclaredLength :
    ∀ n ∈ [2, 3], ∀ s ∈ [captured .capt n 0#16 0x007E#16 0#16], s.st = .capt ∧
      s.ptr.toNat < s.buflen.toNat ∧ (s.buf.read s.ptr.toNat).isSome = true ∧ s.cnt.toNat = n := by
  decide +kernel

theorem witness_CaptureOfTheBody :
    ∀ n ∈ [4, 85], ∀ s ∈ [captured .capt n 0#16 0x007E#16 0#16], s.st = .capt ∧
      s.ptr.toNat < s.buflen.toNat ∧ (s.buf.read s.ptr.toNat).isSome = true ∧ 4 ≤ s.cnt.toNat ∧
      s.cnt.toNat ≤ 85 ∧ s.cnt.toNat = n := by decide +kernel

theorem witness_CaptureOfTheChecksum :
    ∀ n ∈ [86, 87], ∀ s ∈ [captured .capt n 0#16 0x007E#16 0#16], s.st = .capt ∧
      s.ptr.toNat < s.buflen.toNat ∧ (s.buf.read s.ptr.toNat).isSome = true ∧ s.cnt.toNat = n := by
  decide +kernel

theorem witness_CheckComparesTheSums :
    (complete .check).st = .check ∧ (complete .check).sum = (complete .check).ckrx ∧
    (captured .check 88 0x0055#16 0x1B14#16 0x9B14#16).sum ≠
      (captured .check 88 0x0055#16 0x1B14#16 0x9B14#16).ckrx := by decide

theorem witness_DecodeWritesTheEnsemble :
    (complete .decode).st = .decode ∧ ∀ j < 88, ((complete .decode).frame.read j).isSome = true := by
  decide +kernel

theorem witness_StagesOfU8Fields :
    ∀ j ∈ [0, 1, 4, 21, 34, 35, 36, 37, 38, 45], ((complete .decode).frame.read j).isSome = true := by
  decide +kernel

theorem witness_StagesOfU16Fields :
    ∀ j ∈ [2, 3, 13, 14, 15, 16, 17, 18, 19, 20, 30, 31, 32, 33, 39, 40, 41, 42, 46, 47, 86, 87],
      ((complete .decode).frame.read j).isSome = true := by decide +kernel

theorem witness_StagesOfS16Fields :
    ∀ j ∈ [5, 6, 7, 8, 9, 10, 11, 12, 22, 23, 24, 25, 26, 27, 28, 29, 43, 44, 48, 49, 50, 51, 52, 53],
      ((complete .decode).frame.read j).isSome = true := by decide +kernel

theorem witness_StagesOfU32Fields :
    ∀ j < 32, ((complete .decode).frame.read (54 + j)).isSome = true := by decide +kernel

theorem witness_StagesTogetherAreDecode :
    ∀ j < 88, ((complete .capt).frame.read j).isSome = true := by decide +kernel

theorem witness_UnwrittenCellsStop :
    memRead State.reset.frame (fieldOffset .heading) (fieldBytes .heading) = none ∧
    ({ State.reset with st := .decode } : State).st = .decode ∧
    (∀ st ∈ [SeqState.hunt, .ident], (scan st [] 0#8).st = st ∧
      (scan st [] 0#8).buflen.toNat ≤ (scan st [] 0#8).ptr.toNat) ∧
    (∀ st ∈ [SeqState.hunt, .ident], ∀ s ∈ [{ scan st [] 0#8 with buflen := 1#8 }],
      s.ptr.toNat < s.buflen.toNat ∧ s.buf.read s.ptr.toNat = none) ∧
    (∀ n ∈ [2, 3, 4, 85, 86, 87], ∀ s ∈ [{ scan .capt [] 0#8 with cnt := BitVec.ofNat 7 n }],
      s.cnt.toNat = n ∧ s.buflen.toNat ≤ s.ptr.toNat) ∧
    (∀ n ∈ [2, 3, 4, 85, 86, 87],
      ∀ s ∈ [{ scan .capt [] 0#8 with cnt := BitVec.ofNat 7 n, buflen := 1#8 }],
      s.cnt.toNat = n ∧ s.ptr.toNat < s.buflen.toNat ∧ s.buf.read s.ptr.toNat = none) := by decide

theorem witness_UnselectedStepsStop :
    State.reset.st ≠ .hunt ∧ State.reset.st ≠ .ident ∧ State.reset.st ≠ .capt ∧
    State.reset.st ≠ .check ∧ State.reset.st ≠ .decode ∧
    (scan .hunt [0x7D#8] 0#8).ptr ≠ (scan .hunt [0x7D#8] 0#8).buflen ∧
    (scan .hunt [0x7D#8] 0#8).ptr.toNat < (scan .hunt [0x7D#8] 0#8).buflen.toNat ∧
    (scan .hunt [0x7D#8] 0#8).buf.read 0 = some 0x7D#8 ∧
    (scan .ident [0x01#8] 0#8).buf.read 0 = some 0x01#8 ∧
    (scan .ident [0x02#8] 0#8).buf.read 0 = some 0x02#8 ∧
    (∀ n ∈ [3, 86], (captured .capt n 0#16 0#16 0#16).cnt.toNat ≠ 2 ∧
      ¬(4 ≤ (captured .capt n 0#16 0#16 0#16).cnt.toNat ∧
        (captured .capt n 0#16 0#16 0#16).cnt.toNat ≤ 85) ∧
      (captured .capt n 0#16 0#16 0#16).cnt.toNat ≠ 87) := by decide

theorem witness_HeaderMatchIsTheMarkerPair :
    (0#8).toNat + 1 < (scan .hunt [0x7D#8, 0x01#8] 0#8).buflen.toNat ∧
    (scan .hunt [0x7D#8, 0x01#8] 0#8).buf.read 0 = some 0x7D#8 ∧
    (scan .hunt [0x7D#8, 0x01#8] 0#8).buf.read 1 = some 0x01#8 ∧
    (scan .hunt [0x7D#8, 0x01#8] 0#8).buflen.toNat ≤ (1#8).toNat + 1 := by decide

/-- Whether the pair of R81 starts at an offset of a list. -/
def startsAt (l : List Byte) (j : Nat) : Prop := l[j]? = some 0x7D#8 ∧ l[j + 1]? = some 0x01#8

theorem zeros_has_no_pair (n j : Nat) : ¬startsAt (zeros n) j := by
  rintro ⟨h, -⟩
  rw [zeros, List.getElem?_replicate] at h
  split at h <;> simp at h

theorem witness_SyncFindsTheFirstPair :
    (zeros 255).length ≤ 255 ∧ (∀ j, ¬startsAt (zeros 255) j) ∧
    (∀ i ∈ [167, 168], ∀ l ∈ [zeros i ++ 0x7D#8 :: 0x01#8 :: zeros (253 - i)], l.length = 255 ∧
      (l[i]? = some 0x7D#8 ∧ l[i + 1]? = some 0x01#8) ∧
      ∀ j < i, ¬(l[j]? = some 0x7D#8 ∧ l[j + 1]? = some 0x01#8)) :=
  ⟨by decide +kernel, zeros_has_no_pair 255, by decide +kernel⟩

theorem witness_ValidateComparesTheSums :
    frame1.length = 88 ∧ frame1[86]? = some 0x14#8 ∧ frame1[87]? = some 0x1B#8 := by decide

theorem witness_DecodefnExtractsEveryField : frame1.length = 88 := by decide

theorem witness_AcquireTestsInOrder :
    delivery1.length ≤ 255 ∧ 3#8 ≠ 5#8 ∧ ([] : List Byte).length = 0 ∧ 1 ≤ (zeros 1).length ∧
    (zeros 254).length ≤ 254 ∧ (∀ j, ¬startsAt (zeros 255) j) ∧
    (∀ i ∈ [167, 168], ∀ l ∈ [zeros i ++ frame1.take (255 - i)], l.length = 255 ∧
      (i = 167 → l = zeros 167 ++ frame1) ∧
      (l[i]? = some 0x7D#8 ∧ l[i + 1]? = some 0x01#8) ∧
      ∀ j < i, ¬(l[j]? = some 0x7D#8 ∧ l[j + 1]? = some 0x01#8)) ∧
    validateFn (((zeros 167 ++ frame1).drop 167).take 88) = .validatedFrame ∧
    validateFn (((zeros 167 ++ frame1.set 10 0xFE#8).drop 167).take 88) = .checksumMismatch :=
  ⟨by decide +kernel, by decide, by decide, by decide, by decide +kernel, zeros_has_no_pair 255,
    by decide +kernel, by decide +kernel, by decide +kernel⟩

theorem witness_AccumulatingBytesIsTheirSumModulo65536 :
    State.reset.sum = 0#16 ∧ [0xFF#8, 0x01#8].Perm [0x01#8, 0xFF#8] :=
  ⟨rfl, List.Perm.swap _ _ _⟩

theorem witness_ChecksumNeverWraps :
    frame1[86]? = some 0x14#8 ∧ frame1[87]? = some 0x1B#8 ∧ validateFn frame1 = .validatedFrame ∧
    frame1[0]? = some 0x7D#8 ∧ frame1[1]? = some 0x01#8 := by decide +kernel

theorem witness_SingleBitErrorsAreDetected :
    frame1.length = 88 ∧ validateFn frame1 = .validatedFrame ∧ frame1[86]? ≠ some 0x15#8 ∧
    frame1[87]? ≠ some 0x9B#8 := by decide +kernel

theorem witness_ScanStepsComputeSync :
    (∀ d ∈ [[], [0x7D#8, 0x01#8], 0x7D#8 :: 0x01#8 :: zeros 86],
      (scan .hunt d 0#8).st = .hunt ∧ (scan .hunt d 0#8).ptr = 0#8 ∧ (scan .hunt d 0#8).inputs = [] ∧
      d.length = (scan .hunt d 0#8).buflen.toNat ∧
      ∀ j < d.length, (scan .hunt d 0#8).buf.read j = d[j]?) ∧
    syncFn [] = .frameNotFound ∧ syncFn [0x7D#8, 0x01#8] = .streamTruncated ∧
    syncFn (0x7D#8 :: 0x01#8 :: zeros 86) = .candidateFrame 0 := by decide +kernel

theorem witness_CaptureStepsComputeValidate :
    ∀ s ∈ [captured .capt 2 0#16 0x007E#16 0#16], s.st = .capt ∧ s.cnt = 2#7 ∧ s.sum = 0x007E#16 ∧
      s.ptr.toNat = s.off.toNat + 2 ∧ s.inputs = [] ∧ frame1.length = s.buflen.toNat ∧
      s.off.toNat + 88 ≤ frame1.length ∧ (∀ j < frame1.length, s.buf.read j = frame1[j]?) ∧
      frame1[s.off.toNat]? = some 0x7D#8 ∧ frame1[s.off.toNat + 1]? = some 0x01#8 ∧
      s.frame.read 0 = some 0x7D#8 ∧ s.frame.read 1 = some 0x01#8 ∧
      validateFn (frameAt frame1 s.off.toNat) = .validatedFrame := by decide +kernel

theorem witness_CaptureStepsComputeValidate_mismatch :
    ∀ d ∈ [frame1.set 10 0xFE#8], ∀ s ∈ [{ captured .capt 2 0#16 0x007E#16 0#16 with
      buf := Memory.load d }], s.st = .capt ∧ d.length = s.buflen.toNat ∧
      (∀ j < d.length, s.buf.read j = d[j]?) ∧
      validateFn (frameAt d s.off.toNat) = .checksumMismatch := by decide +kernel

theorem witness_CycleComputesAcquire :
    ∀ s ∈ [State.reset, success], ∀ x ∈ [{ s with
      inputs := [.command (commandWord 0b01#2 0#6 5#8), .delivery delivery1] }],
      (x.st = .idle ∨ x.st = .done) ∧ delivery1.length ≤ 255 ∧
      x.inputs = [.command (commandWord 0b01#2 0#6 5#8), .delivery delivery1] := by decide +kernel

/-- An own step that reads a byte, and one that reads none (PTR == BUFLEN). -/
theorem witness_PointerMovesOneByteAtATime :
    (scan .hunt [0x7D#8] 0#8).ownStep ∧
    got (step (scan .hunt [0x7D#8] 0#8)) = some (scan .ident [0x7D#8] 1#8) ∧
    (scan .hunt [0x7D#8] 0#8).ptr ≠ (scan .hunt [0x7D#8] 0#8).buflen ∧
    (scan .ident [0x7D#8] 1#8).ownStep ∧ (got (step (scan .ident [0x7D#8] 1#8))).isSome = true ∧
    (scan .ident [0x7D#8] 1#8).ptr = (scan .ident [0x7D#8] 1#8).buflen :=
  ⟨.inl rfl, by decide, by decide, .inl rfl, by decide, by decide⟩

theorem witness_WhoWritesTheEnsemble :
    ∃ t, exec (.start 3#8) { done .success with
        ens := { Ensemble.unwritten with id := some 0x7D#8 } } = .next t ∧
      ensGet t.ens .id ≠ some (0x7D#8 : BitVec 8) := ⟨_, rfl, fun h => nomatch h⟩

theorem witness_WhoWritesStatus :
    (∃ t, exec .huntEnd (scan .hunt [] 0#8) = .next t ∧ t.status ≠ (scan .hunt [] 0#8).status) ∧
    ∃ t, exec (.start 5#8) (done .success) = .next t ∧ t.status ≠ (done .success).status :=
  ⟨⟨_, rfl, by decide⟩, ⟨_, rfl, by decide⟩⟩

theorem witness_TransitionRelation :
    ∀ p ∈ [(Instr.start 5#8, done .success), (.deliver [], waiting), (.huntEnd, scan .hunt [] 0#8),
      (.huntSkip, scan .hunt [0x00#8] 0#8), (.huntId, scan .hunt [0x7D#8] 0#8),
      (.idEnd, scan .ident [] 0#8), (.idMatch, scan .ident [0x7D#8, 0x01#8] 1#8),
      (.idAgain, scan .ident [0x7D#8, 0x7D#8] 1#8), (.idMiss, scan .ident [0x7D#8, 0x02#8] 1#8),
      (.captBody, captured .capt 4 0#16 0#16 0#16), (.captCkhi, captured .capt 87 0#16 0#16 0#16),
      (.check, complete .check), (.decode, complete .decode), (.rdstat, waiting)],
      (got (exec p.1 p.2)).isSome = true := by decide +kernel

theorem witness_RequestsAreOnePerAcceptedStart :
    State.reset.st = .idle ∧ (got (exec (.start 5#8) State.reset)).isSome = true ∧
    waiting.st ≠ .idle ∧ waiting.st ≠ .done ∧ (got (exec (.start 5#8) waiting)).isSome = true := by
  decide

/-- A scan about to start on any buffer meets the invariants. -/
theorem inv_scan_start (l : List Byte) (hl : l.length ≤ 255) : (scan .hunt l 0#8).Inv where
  buf_wf := Memory.load_wf l
  buf_within := Memory.load_within l _ hl
  frame_wf := rfl
  frame_within := rfl
  ptr_le := Nat.zero_le _
  buf_full j hj := by
    have hw : (BitVec.ofNat 8 l.length).toNat = l.length := by
      rw [BitVec.toNat_ofNat]; omega
    rw [show (scan .hunt l 0#8).buf = Memory.load l from rfl, Memory.read_load]
    simpa [scan, hw] using hj
  no_pair_before _ j hj := absurd hj (by simp [scan])
  ident_byte h := by cases h
  hunt_byte _ := .inl rfl
  capt h := by cases h
  full h := by rcases h with h | h <;> cases h
  decode_eq h := by cases h
  status_done := (by decide : State.reset.status ≠ none ↔ SeqState.hunt = .done)
  ens_some := (by decide : Ensemble.unwritten.someWritten = true ↔
    SeqState.hunt = .done ∧ State.reset.status = some .success)
  ens_all := (by decide : Ensemble.unwritten.allWritten = true ↔
    SeqState.hunt = .done ∧ State.reset.status = some .success)
  ports x hx := by cases hx

/-- F1 captured up to its last byte meets the invariants. -/
theorem inv_last_capture : (captured .capt 87 0x0055#16 0x1B14#16 0x0014#16).Inv where
  buf_wf := Memory.load_wf _
  buf_within := Memory.load_within _ _ (by decide +kernel)
  frame_wf := Memory.load_wf _
  frame_within := Memory.load_within _ _ (by decide +kernel)
  ptr_le := by decide +kernel
  buf_full := by decide +kernel
  no_pair_before h := by rcases h with h | h <;> cases h
  ident_byte h := by cases h
  hunt_byte h := by cases h
  capt _ := ⟨by decide +kernel, by decide +kernel,
    { ptr_eq := by decide +kernel, fits := by decide +kernel, copy := by decide +kernel, id_byte := by decide +kernel
      fmt_byte := by decide +kernel, sum_eq := by decide +kernel, len_low := by decide +kernel
      len_high := by decide +kernel, ckrx_low := by decide +kernel, ckrx_high := by decide +kernel }⟩
  full h := by rcases h with h | h <;> cases h
  decode_eq h := by cases h
  status_done := by decide +kernel
  ens_some := by decide +kernel
  ens_all := by decide +kernel
  ports := by decide +kernel

/-- F1 complete, the checksums equal, meets the invariants. -/
theorem inv_decode : (complete .decode).Inv where
  buf_wf := Memory.load_wf _
  buf_within := Memory.load_within _ _ (by decide +kernel)
  frame_wf := Memory.load_wf _
  frame_within := Memory.load_within _ _ (by decide +kernel)
  ptr_le := by decide +kernel
  buf_full := by decide +kernel
  no_pair_before h := by rcases h with h | h <;> cases h
  ident_byte h := by cases h
  hunt_byte h := by cases h
  capt h := by cases h
  full _ := ⟨by decide +kernel,
    { ptr_eq := by decide +kernel, fits := by decide +kernel, copy := by decide +kernel, id_byte := by decide +kernel
      fmt_byte := by decide +kernel, sum_eq := by decide +kernel, len_low := by decide +kernel
      len_high := by decide +kernel, ckrx_low := by decide +kernel, ckrx_high := by decide +kernel }⟩
  decode_eq := by decide +kernel
  status_done := by decide +kernel
  ens_some := by decide +kernel
  ens_all := by decide +kernel
  ports := by decide +kernel

theorem witness_EveryStepKeepsTheInvariants :
    (scan .hunt [0x7D#8, 0x01#8] 0#8).Inv ∧ (got (step (scan .hunt [0x7D#8, 0x01#8] 0#8))).isSome = true ∧
    (captured .capt 87 0x0055#16 0x1B14#16 0x0014#16).Inv ∧
    (got (step (captured .capt 87 0x0055#16 0x1B14#16 0x0014#16))).isSome = true ∧
    (complete .decode).Inv ∧ (got (step (complete .decode))).isSome = true :=
  ⟨inv_scan_start _ (by decide), by decide +kernel, inv_last_capture, by decide +kernel,
    inv_decode, by decide +kernel⟩

theorem witness_NoStepStopsUnderTheInvariants :
    (scan .hunt [] 0#8).Inv ∧ (complete .decode).Inv :=
  ⟨inv_scan_start _ (by decide), inv_decode⟩

theorem witness_EveryScanEnds :
    (scan .hunt (zeros 255) 0#8).Inv ∧ (scan .hunt (zeros 255) 0#8).inputs = [] ∧
    (scan .hunt (zeros 255) 0#8).st = .hunt ∧
    (captured .capt 87 0x0055#16 0x1B14#16 0x0014#16).Inv ∧ (complete .decode).Inv :=
  ⟨inv_scan_start _ (by rw [zeros, List.length_replicate]), rfl, rfl, inv_last_capture, inv_decode⟩

theorem witness_CyclesDoNotDependOnThePast :
    (∀ x ∈ [Input.delivery [], .resetLine], x.fromPort = true) ∧
    State.reset.st = .idle ∧ success.st = .done ∧
    (match Host.Core.run Sys2Proof.core 2 { State.reset with
        inputs := [.command (commandWord 0b01#2 0#6 5#8), .delivery [], .resetLine] } with
      | .next _ => true
      | _ => false) = true :=
  ⟨by decide, rfl, rfl, by decide⟩

end Sys2Proof.Tests
end

