-- ==== Sys2Proof/Proofs/Stops.lean ====
section
/-! PROOF. Where a read of BUF or FRAME stops by name (`00_scope.md` rule R7, log entry 2). -/

namespace Sys2Proof.Machine

/-- R7: BUF has no byte to answer at or past BUFLEN. -/
theorem State.bufByte_of_buflen_le {s : State} (h : s.buflen.toNat ≤ s.ptr.toNat) :
    s.bufByte = .error (.bufOutOfRange s.ptr.toNat) := by
  have hlt : ¬ s.ptr < s.buflen := Nat.not_lt.mpr h
  rw [State.bufByte, if_neg hlt]

/-- Log entry 2: nor in a cell below BUFLEN that nothing has written. -/
theorem State.bufByte_of_unwritten {s : State} (hlt : s.ptr.toNat < s.buflen.toNat)
    (hb : s.buf.read s.ptr.toNat = none) :
    s.bufByte = .error (.bufUnwritten s.ptr.toNat) := by
  have hlt' : s.ptr < s.buflen := hlt
  rw [State.bufByte, if_pos hlt', hb]

/-- A meaning that reads BUF[PTR] stops with the fault of that read. -/
theorem State.onByte_of_error {s : State} {e : Fault} (h : s.bufByte = .error e)
    (k : Byte → Result) : s.onByte k = .fault e := by
  rw [State.onByte, h]

/-- An operation reads BUF[PTR] before it does anything else. -/
def ReadsBufFirst (i : Instr) (s : State) : Prop := ∃ k, exec i s = s.onByte k

/-- Such an operation stops by name where BUF[PTR] has no byte, whatever it would do with one. -/
theorem ReadsBufFirst.stops {i : Instr} {s : State} (h : ReadsBufFirst i s) :
    (s.buflen.toNat ≤ s.ptr.toNat → exec i s = .fault (.bufOutOfRange s.ptr.toNat)) ∧
    (s.ptr.toNat < s.buflen.toNat → s.buf.read s.ptr.toNat = none →
      exec i s = .fault (.bufUnwritten s.ptr.toNat)) := by
  obtain ⟨k, hk⟩ := h
  rw [hk]
  exact ⟨fun hle => State.onByte_of_error (State.bufByte_of_buflen_le hle) k,
    fun hlt hb => State.onByte_of_error (State.bufByte_of_unwritten hlt hb) k⟩

/-- Inside its range of CNT a capture is a read of BUF[PTR] and a continuation. -/
theorem ReadsBufFirst.of_capture {i : Instr} {s : State} {lo hi : Nat}
    {rest : Byte → State → State} (hexec : exec i s = s.capture lo hi rest) (hst : s.st = .capt)
    (hlo : lo ≤ s.cnt.toNat) (hhi : s.cnt.toNat ≤ hi) : ReadsBufFirst i s :=
  ⟨_, hexec.trans (if_pos ⟨hst, hlo, hhi⟩)⟩

/-- The byte steps of HUNT (R106, R107). -/
theorem readsBufFirst_of_hunt {s : State} (hst : s.st = .hunt) :
    ∀ i ∈ [Instr.huntId, .huntSkip], ReadsBufFirst i s := by
  simp only [List.forall_mem_cons, List.not_mem_nil, false_imp_iff, implies_true, and_true]
  exact ⟨⟨_, if_pos hst⟩, ⟨_, if_pos hst⟩⟩

/-- The byte steps of ID (R109 to R111). -/
theorem readsBufFirst_of_ident {s : State} (hst : s.st = .ident) :
    ∀ i ∈ [Instr.idMatch, .idAgain, .idMiss], ReadsBufFirst i s := by
  simp only [List.forall_mem_cons, List.not_mem_nil, false_imp_iff, implies_true, and_true]
  exact ⟨⟨_, if_pos hst⟩, ⟨_, if_pos hst⟩, ⟨_, if_pos hst⟩⟩

/-- The capture steps, each in its range of CNT (R122 to R126). -/
theorem readsBufFirst_of_capt {s : State} (hst : s.st = .capt) :
    ∀ x ∈ [(Instr.captLenlo, 2, 2), (.captLenhi, 3, 3), (.captBody, 4, 85), (.captCklo, 86, 86),
      (.captCkhi, 87, 87)], x.2.1 ≤ s.cnt.toNat → s.cnt.toNat ≤ x.2.2 → ReadsBufFirst x.1 s := by
  simp only [List.forall_mem_cons, List.not_mem_nil, false_imp_iff, implies_true, and_true]
  exact ⟨.of_capture (execCaptLenlo_eq s) hst, .of_capture (execCaptLenhi_eq s) hst,
    .of_capture (execCaptBody_eq s) hst, .of_capture (execCaptCklo_eq s) hst,
    .of_capture (execCaptCkhi_eq s) hst⟩

/-- A lone stage without its frame bytes stops with the offset of its field. -/
theorem exec_stageOf_of_unwritten {f : Field} {s : State} (h : extractField s.frame f = none) :
    exec (stageOf f) s = .fault (.frameUnwritten (fieldOffset f)) := by
  rw [exec_stageOf, runStage, h]

/-- One field without its bytes leaves DECODEFN without a value. -/
theorem extractAll_eq_none {frame : Memory} {f : Field} (h : extractField frame f = none) :
    extractAll frame = none := by
  cases hall : extractAll frame with
  | none => rfl
  | some e =>
    have hsome := extractAll_field_isSome hall f
    rw [extractAll_get hall f, h] at hsome
    cases hsome

/-- DECODE stops on a frame with such a field. -/
theorem exec_decode_of_unwritten {f : Field} {s : State} (h : extractField s.frame f = none)
    (hst : s.st = .decode) : exec .decode s = .fault (.frameUnwritten 0) := by
  rw [exec, execDecode, if_pos hst, extractAll_eq_none h]

/-- Settles O35: the byte steps read BUF[PTR] first, so the fault of the read is theirs; a stage and
DECODE take their fault from the field that has no value. -/
theorem unwrittenCellsStop : Obligations.UnwrittenCellsStop := fun _ =>
  ⟨fun _ h => ⟨exec_stageOf_of_unwritten h, exec_decode_of_unwritten h⟩,
    fun i hi hst => (readsBufFirst_of_hunt hst i hi).stops,
    fun i hi hst => (readsBufFirst_of_ident hst i hi).stops,
    fun x hx hst hlo hhi => (readsBufFirst_of_capt hst x hx hlo hhi).stops⟩

end Sys2Proof.Machine
end

section
/-! PROOF. What every operation does to the state, said once: the kinds of transition of the block
(`10_state.md`, `43_acquisition.md` rule R200). -/

namespace Sys2Proof.Machine

/-- An operation of format FX is the stage of a field: its selector decodes to one (R88). -/
theorem eq_stageOf_of_format {i : Instr} (hi : i.format = .fx) : ∃ f, i = stageOf f := by
  have hdec : decode (encode i) = .ok i := by cases i <;> first | rfl | cases hi
  have hfmt : (encode i).format = .fx := by cases i <;> first | rfl | cases hi
  cases hsig : encode i with
  | stage k =>
    rw [hsig] at hdec
    simp only [decode] at hdec
    split at hdec
    · next f _ => cases hdec; exact ⟨f, rfl⟩
    · cases hdec
  | _ => rw [hsig] at hfmt; cases hfmt

theorem stageOf_format (f : Field) : (stageOf f).format = .fx := by cases f <;> rfl

/-- The state after frame byte CNT = `b` is captured, whichever of the five steps of R122 to R126
does it: CNT alone decides what becomes of LEN, SUM, CKRX and ST. -/
def State.captureByte (s : State) (b : Byte) : State :=
  { s with
    frame := s.frame.write s.cnt.toNat b, ptr := s.ptr + 1#8, cnt := s.cnt + 1#7
    len := if s.cnt.toNat = 2 then withLow s.len b
      else if s.cnt.toNat = 3 then withHigh s.len b else s.len
    sum := if s.cnt.toNat < 86 then s.sum + zext 16 b else s.sum
    ckrx := if s.cnt.toNat = 86 then withLow s.ckrx b
      else if s.cnt.toNat = 87 then withHigh s.ckrx b else s.ckrx
    st := if s.cnt.toNat = 87 then .check else .capt }

/-- A capture step whose own part is what `captureByte` does in its range of CNT. -/
theorem State.capture_eq {s : State} {lo hi : Nat} {rest : Byte → State → State}
    (h : s.st = .capt → lo ≤ s.cnt.toNat → s.cnt.toNat ≤ hi → ∀ b, rest b { s with
      frame := s.frame.write s.cnt.toNat b, ptr := s.ptr + 1#8, cnt := s.cnt + 1#7 } =
        s.captureByte b) :
    s.capture lo hi rest =
      if s.st = .capt ∧ lo ≤ s.cnt.toNat ∧ s.cnt.toNat ≤ hi then
        s.onByte fun b => .next (s.captureByte b)
      else .fault .stepNotEnabled := by
  unfold State.capture
  split
  · next hc =>
    obtain ⟨hst, hlo, hhi⟩ := hc
    exact congrArg s.onByte (funext fun b => congrArg _ (h hst hlo hhi b))
  · rfl

/-- The five operations of R122 to R126. -/
def IsCapture (i : Instr) : Prop :=
  i = .captLenlo ∨ i = .captLenhi ∨ i = .captBody ∨ i = .captCklo ∨ i = .captCkhi

/-- They differ in the range of CNT they are enabled for, and in nothing else. -/
theorem exec_capture_eq {i : Instr} (hi : IsCapture i) :
    ∃ lo hi, 2 ≤ lo ∧ hi ≤ 87 ∧ ∀ s, exec i s =
      if s.st = .capt ∧ lo ≤ s.cnt.toNat ∧ s.cnt.toNat ≤ hi then
        s.onByte fun b => .next (s.captureByte b)
      else .fault .stepNotEnabled := by
  rcases hi with rfl | rfl | rfl | rfl | rfl
  · refine ⟨2, 2, by decide, by decide, fun s => (execCaptLenlo_eq s).trans
      (State.capture_eq fun hst hlo hhi b => ?_)⟩
    have hcnt : s.cnt.toNat = 2 := by omega
    simp [State.captureByte, State.accumulate, hst, hcnt]
  · refine ⟨3, 3, by decide, by decide, fun s => (execCaptLenhi_eq s).trans
      (State.capture_eq fun hst hlo hhi b => ?_)⟩
    have hcnt : s.cnt.toNat = 3 := by omega
    simp [State.captureByte, State.accumulate, hst, hcnt]
  · refine ⟨4, 85, by decide, by decide, fun s => (execCaptBody_eq s).trans
      (State.capture_eq fun hst hlo hhi b => ?_)⟩
    obtain ⟨h2, h3, h86, h87, hlt⟩ : s.cnt.toNat ≠ 2 ∧ s.cnt.toNat ≠ 3 ∧ s.cnt.toNat ≠ 86 ∧
      s.cnt.toNat ≠ 87 ∧ s.cnt.toNat < 86 := by omega
    simp [State.captureByte, State.accumulate, hst, h2, h3, h86, h87, hlt]
  · refine ⟨86, 86, by decide, by decide, fun s => (execCaptCklo_eq s).trans
      (State.capture_eq fun hst hlo hhi b => ?_)⟩
    have hcnt : s.cnt.toNat = 86 := by omega
    simp [State.captureByte, hst, hcnt]
  · refine ⟨87, 87, by decide, by decide, fun s => (execCaptCkhi_eq s).trans
      (State.capture_eq fun hst hlo hhi b => ?_)⟩
    have hcnt : s.cnt.toNat = 87 := by omega
    simp [State.captureByte, hcnt]

/-- The kinds of transition of the block, over all operations. -/
inductive Transition (s : State) : Instr → State → Prop
  /-- NOP, a START while busy, a DELIVER outside WAITRX (R194, R196). -/
  | ignored {i} (hi : i.format = .host ∨ i.format = .xport) : Transition s i s
  /-- RDSTAT, RDFLD, PD5 and the pure functions record an answer. -/
  | answered {i} (e : Event) (hi : i.format = .host ∨ i.format = .frame ∨ i.format = .pure) :
      Transition s i (s.emit e)
  /-- An accepted START of another format (R191). -/
  | rejected {nf} (hst : s.st = .idle ∨ s.st = .done) (hnf : nf ≠ 5#8) :
      Transition s (.start nf) ((s.reinit nf).raise .unsupportedFormat)
  /-- An accepted START 5 (R192). -/
  | requested (hst : s.st = .idle ∨ s.st = .done) :
      Transition s (.start 5#8)
        (({ s.reinit 5#8 with st := .waitrx } : State).emit (.rxRequest 255))
  /-- A full delivery (R193). -/
  | delivered {d} (hst : s.st = .waitrx) (hd : d.length = 255) :
      Transition s (.deliver d)
        { s with buf := Memory.load d, buflen := 255#8, ptr := 0#8, st := .hunt }
  /-- A short delivery, an exhausted scan, a checksum mismatch end the cycle (R219). -/
  | ended {i} (o : OutcomeCode) (hi : i.format = .xport ∨ i.format = .step) (ho : o ≠ .success)
      (hst : s.st = .waitrx ∨ (s.st = .hunt ∨ s.st = .ident) ∧ s.ptr = s.buflen ∨ s.st = .check) :
      Transition s i (s.raise o)
  /-- A scan step that goes on takes one byte `b` and leaves ST = ID exactly where that is 0x7D;
  in ID it is not 0x01, which is ID.MATCH's (R106, R107, R110, R111). -/
  | scanned {i} (b : Byte) (st' : SeqState) (hi : i.format = .step)
      (hst : s.st = .hunt ∨ s.st = .ident) (hlt : s.ptr.toNat < s.buflen.toNat)
      (hb : s.buf.read s.ptr.toNat = some b)
      (hst' : st' = .ident ∧ b = 0x7D#8 ∨
        st' = .hunt ∧ b ≠ 0x7D#8 ∧ (s.st = .ident → b ≠ 0x01#8)) :
      Transition s i { s with ptr := s.ptr + 1#8, st := st' }
  /-- The first marker pair (R109). -/
  | matched (hst : s.st = .ident) (hlt : s.ptr.toNat < s.buflen.toNat)
      (hb : s.buf.read s.ptr.toNat = some 0x01#8) : Transition s .idMatch (matchFound s)
  /-- One more frame byte (R122 to R126). -/
  | captured {i} (b : Byte) (hi : i.format = .step) (hst : s.st = .capt) (hlo : 2 ≤ s.cnt.toNat)
      (hhi : s.cnt.toNat ≤ 87) (hlt : s.ptr.toNat < s.buflen.toNat)
      (hb : s.buf.read s.ptr.toNat = some b) : Transition s i (s.captureByte b)
  /-- The checksums are equal (R127). -/
  | checked (hst : s.st = .check) (hsum : s.sum = s.ckrx) :
      Transition s .check { s with st := .decode }
  /-- All 41 stages, then Success (R144). -/
  | decoded {e} (hst : s.st = .decode) (he : extractAll s.frame = some e) :
      Transition s .decode (({ s with ens := e } : State).raise .success)
  /-- One stage alone (log entry 6). -/
  | staged (f : Field) {v : BitVec (fieldWidth f)} (hv : extractField s.frame f = some v) :
      Transition s (stageOf f) { s with ens := ensSet s.ens f (some v) }
  /-- The reset input (R240). -/
  | reset : Transition s .reset
      { State.reset with
        numformat := Config.freeNumformat s.draws, inputs := s.inputs, history := s.history,
        draws := s.draws + 1 }

/-- The five capture steps are one kind of transition. -/
theorem transition_of_capture {i : Instr} {s t : State} (hi : IsCapture i)
    (h : exec i s = .next t) : Transition s i t := by
  obtain ⟨lo, hi', hlo, hhi, hexec⟩ := exec_capture_eq hi
  have hfmt : i.format = .step := by rcases hi with rfl | rfl | rfl | rfl | rfl <;> rfl
  rw [hexec] at h
  split at h
  · next hc =>
    obtain ⟨hst, hclo, hchi⟩ := hc
    obtain ⟨b, hlt, hb, ht⟩ := State.onByte_next h
    cases ht
    exact .captured b hfmt hst (hlo.trans hclo) (hchi.trans hhi) hlt hb
  · cases h

/-- Every next state is one of these transitions. -/
theorem transition_of_exec {i : Instr} {s t : State} (h : exec i s = .next t) :
    Transition s i t := by
  by_cases hfx : i.format = .fx
  · obtain ⟨f, rfl⟩ := eq_stageOf_of_format hfx
    rw [exec_stageOf] at h
    obtain ⟨v, hv, rfl⟩ := runStage_next.mp h
    exact .staged f hv
  by_cases hans : i.format = .frame ∨ i.format = .pure
  · obtain ⟨e, _, rfl⟩ := exec_answer_next hans h
    exact .answered e (.inr hans)
  cases i
  case nop => obtain rfl := exec_nop_next h; exact .ignored (.inl rfl)
  case start nf =>
    rcases exec_start_next h with ⟨_, rfl⟩ | ⟨hst, hnf, rfl⟩ | ⟨hst, rfl, rfl⟩
    · exact .ignored (.inl rfl)
    · exact .rejected hst hnf
    · exact .requested hst
  case rdstat => obtain rfl := exec_rdstat_next h; exact .answered _ (.inl rfl)
  case rdfld k => obtain rfl := exec_rdfld_next h; exact .answered _ (.inl rfl)
  case deliver d =>
    obtain ⟨_, ⟨_, rfl⟩ | ⟨hst, _, rfl⟩ | ⟨hst, _, _, rfl⟩ | ⟨hst, hd, rfl⟩⟩ := exec_deliver_next h
    · exact .ignored (.inr rfl)
    · exact .ended .portUnresponsive (.inl rfl) (by decide) (.inl hst)
    · exact .ended .streamTruncated (.inl rfl) (by decide) (.inl hst)
    · exact .delivered hst hd
  case huntEnd =>
    obtain ⟨hst, hp, rfl⟩ := exec_huntEnd_next h
    exact .ended .frameNotFound (.inr rfl) (by decide) (.inr (.inl ⟨.inl hst, hp⟩))
  case idEnd =>
    obtain ⟨hst, hp, rfl⟩ := exec_idEnd_next h
    exact .ended .frameNotFound (.inr rfl) (by decide) (.inr (.inl ⟨.inr hst, hp⟩))
  case huntId =>
    obtain ⟨hst, hlt, hb, rfl⟩ := exec_huntId_next h
    exact .scanned _ .ident rfl (.inl hst) hlt hb (.inl ⟨rfl, rfl⟩)
  case huntSkip =>
    obtain ⟨hst, hlt, ⟨b, hb, hne⟩, rfl⟩ := exec_huntSkip_next h
    have hid : s.st = .ident → b ≠ 0x01#8 := fun hc => by rw [hst] at hc; cases hc
    exact hst ▸ .scanned b .hunt rfl (.inl hst) hlt hb (.inr ⟨rfl, hne, hid⟩)
  case idMatch =>
    obtain ⟨hst, hlt, hb, rfl⟩ := exec_idMatch_next h
    exact .matched hst hlt hb
  case idAgain =>
    obtain ⟨hst, hlt, hb, rfl⟩ := exec_idAgain_next h
    exact hst ▸ .scanned _ .ident rfl (.inr hst) hlt hb (.inl ⟨rfl, rfl⟩)
  case idMiss =>
    obtain ⟨hst, hlt, ⟨b, hb, h01, h7D⟩, rfl⟩ := exec_idMiss_next h
    exact .scanned b .hunt rfl (.inr hst) hlt hb (.inr ⟨rfl, h7D, fun _ => h01⟩)
  case captLenlo => exact transition_of_capture (by simp [IsCapture]) h
  case captLenhi => exact transition_of_capture (by simp [IsCapture]) h
  case captBody => exact transition_of_capture (by simp [IsCapture]) h
  case captCklo => exact transition_of_capture (by simp [IsCapture]) h
  case captCkhi => exact transition_of_capture (by simp [IsCapture]) h
  case check =>
    obtain ⟨hst, ⟨hsum, rfl⟩ | ⟨_, rfl⟩⟩ := exec_check_next h
    · exact .checked hst hsum
    · exact .ended .checksumMismatch (.inr rfl) (by decide) (.inr (.inr hst))
  case decode =>
    obtain ⟨hst, e, he, rfl⟩ := exec_decode_next h
    exact .decoded hst he
  case reset => obtain rfl := exec_reset_next h; exact .reset
  all_goals first
    | exact absurd rfl hfx
    | exact absurd (.inl rfl) hans
    | exact absurd (.inr rfl) hans

@[simp] theorem State.captureByte_ptr (s : State) (b : Byte) :
    (s.captureByte b).ptr = s.ptr + 1#8 := rfl

@[simp] theorem State.captureByte_frame (s : State) (b : Byte) :
    (s.captureByte b).frame = s.frame.write s.cnt.toNat b := rfl
@[simp] theorem State.captureByte_len (s : State) (b : Byte) : (s.captureByte b).len =
    if s.cnt.toNat = 2 then withLow s.len b
    else if s.cnt.toNat = 3 then withHigh s.len b else s.len := rfl
@[simp] theorem State.captureByte_ckrx (s : State) (b : Byte) : (s.captureByte b).ckrx =
    if s.cnt.toNat = 86 then withLow s.ckrx b
    else if s.cnt.toNat = 87 then withHigh s.ckrx b else s.ckrx := rfl
@[simp] theorem State.captureByte_st (s : State) (b : Byte) :
    (s.captureByte b).st = if s.cnt.toNat = 87 then .check else .capt := rfl

/-! What ID.MATCH does whatever its bounds check says. -/

@[simp] theorem matchFound_ptr (s : State) : (matchFound s).ptr = s.ptr + 1#8 := by
  rcases matchFound_cases s with ⟨_, h⟩ | ⟨_, h⟩ <;> simp [h]

@[simp] theorem matchFound_buf (s : State) : (matchFound s).buf = s.buf := by
  rcases matchFound_cases s with ⟨_, h⟩ | ⟨_, h⟩ <;> simp [h]

@[simp] theorem matchFound_buflen (s : State) : (matchFound s).buflen = s.buflen := by
  rcases matchFound_cases s with ⟨_, h⟩ | ⟨_, h⟩ <;> simp [h]

@[simp] theorem matchFound_ens (s : State) : (matchFound s).ens = s.ens := by
  rcases matchFound_cases s with ⟨_, h⟩ | ⟨_, h⟩ <;> simp [h]

@[simp] theorem matchFound_inputs (s : State) : (matchFound s).inputs = s.inputs := by
  rcases matchFound_cases s with ⟨_, h⟩ | ⟨_, h⟩ <;> simp [h]

/-- ID.MATCH ends the cycle as StreamTruncated or starts the capture (R109). -/
theorem matchFound_outcome (s : State) :
    (matchFound s).st = .done ∧ (matchFound s).status = some .streamTruncated ∨
      (matchFound s).st = .capt ∧ (matchFound s).status = s.status := by
  rcases matchFound_cases s with ⟨_, h⟩ | ⟨_, h⟩ <;> simp [h]

end Sys2Proof.Machine
end

section
/-! PROOF. The state after reset (`10_state.md` rule R39), and from the kinds of transition who
writes PTR (R25), the ENS registers (R32) and STATUS (R33). -/

namespace Sys2Proof.Machine

/-- Settles O10: the values of R39, read off the reset state. -/
theorem resetStateIsAsStated : Obligations.ResetStateIsAsStated :=
  ⟨rfl, rfl, rfl, rfl, rfl, rfl, rfl, rfl, rfl, ensGet_unwritten, rfl, rfl, rfl, rfl⟩

/-- The states whose step reads BUF[PTR] (R25). -/
def State.reads (s : State) : Prop := s.st = .hunt ∨ s.st = .ident ∨ s.st = .capt

/-- PTR + 1 does not wrap below BUFLEN. -/
theorem toNat_ptr_succ {ptr buflen : BitVec 8} (h : ptr.toNat < buflen.toNat) :
    (ptr + 1#8).toNat = ptr.toNat + 1 := by
  have := buflen.isLt
  simp only [BitVec.toNat_add, BitVec.toNat_ofNat]
  omega

/-- A sequencer step reads a byte below BUFLEN and moves PTR past it, or reads none because its
state never does or the buffer is exhausted. -/
theorem Transition.ptr_of_step {i : Instr} {s t : State} (h : Transition s i t)
    (hi : i.format = .step) :
    (s.reads ∧ s.ptr.toNat < s.buflen.toNat ∧ t.ptr = s.ptr + 1#8 ∨
      ¬(s.reads ∧ s.ptr ≠ s.buflen) ∧ t.ptr = s.ptr) ∧
    t.buf = s.buf ∧ t.buflen = s.buflen := by
  cases h with
  | ended o _ _ hst =>
    refine ⟨.inr ⟨?_, rfl⟩, rfl, rfl⟩
    rintro ⟨hreads, hne⟩
    rcases hst with hst | ⟨_, hp⟩ | hst
    · simp [State.reads, hst] at hreads
    · exact hne hp
    · simp [State.reads, hst] at hreads
  | scanned b st' _ hst hlt => exact ⟨.inl ⟨hst.elim .inl (.inr ∘ .inl), hlt, rfl⟩, rfl, rfl⟩
  | matched hst hlt =>
    exact ⟨.inl ⟨.inr (.inl hst), hlt, matchFound_ptr s⟩, matchFound_buf s, matchFound_buflen s⟩
  | captured b _ hst _ _ hlt => exact ⟨.inl ⟨.inr (.inr hst), hlt, rfl⟩, rfl, rfl⟩
  | checked hst => exact ⟨.inr ⟨by simp [State.reads, hst], rfl⟩, rfl, rfl⟩
  | decoded hst => exact ⟨.inr ⟨by simp [State.reads, hst], rfl⟩, rfl, rfl⟩
  | ignored hf => rcases hf with hf | hf <;> rw [hi] at hf <;> cases hf
  | answered _ hf => rcases hf with hf | hf | hf <;> rw [hi] at hf <;> cases hf
  | staged f => rw [stageOf_format] at hi; cases hi
  | _ => cases hi

/-- Where no sequencer step is selected, none of the reading states is (R87). -/
theorem not_reads_of_waiting {s : State} (h : selectStep s = .waiting) : ¬s.reads := by
  have hlook : ∀ mk, lookSignal s mk ≠ .waiting := fun mk => by unfold lookSignal; split <;> simp
  rintro (hst | hst | hst) <;> simp [selectStep, hst, hlook] at h

/-- Settles O52: an own step is a wait in a state that reads nothing, or a sequencer step. -/
theorem pointerMovesOneByteAtATime : Obligations.PointerMovesOneByteAtATime := by
  intro s t hown hstep
  have hfetch := fetch_of_ownStep hown
  rcases step_next hstep with ⟨hw, rfl⟩ | ⟨sig, i, hsig, hdec, hexec⟩
  · have hnot := not_reads_of_waiting (hfetch ▸ hw)
    exact ⟨fun h => absurd h.1 hnot, fun _ => rfl, rfl, rfl⟩
  · have hi := decode_of_selectStep (hfetch ▸ hsig) hdec
    obtain ⟨hptr, hbuf, hbuflen⟩ := (transition_of_exec hexec).ptr_of_step hi
    refine ⟨?_, ?_, hbuf, hbuflen⟩ <;> rcases hptr with ⟨hr, hlt, hp⟩ | ⟨hn, hp⟩
    · exact fun _ => hp ▸ toNat_ptr_succ hlt
    · exact fun h => absurd h hn
    · exact fun h => absurd ⟨hr, fun e => (Nat.ne_of_lt hlt) (congrArg BitVec.toNat e)⟩ h
    · exact fun _ => hp

/-- Settles O53: of all transitions only four kinds touch ENS, and a stage only its own register. -/
theorem whoWritesTheEnsemble : Obligations.WhoWritesTheEnsemble := by
  intro i s t f hexec hne
  cases transition_of_exec hexec with
  | decoded => exact .inl rfl
  | reset => exact .inr (.inl rfl)
  | rejected hst => exact .inr (.inr (.inr ⟨_, rfl, hst⟩))
  | requested hst => exact .inr (.inr (.inr ⟨_, rfl, hst⟩))
  | @staged g v _ =>
    by_cases hfg : f = g
    · exact .inr (.inr (.inl (hfg ▸ rfl)))
    · exact absurd (ensGet_ensSet_other s.ens g f hfg (some v)) hne
  | matched => exact absurd (congrArg (ensGet · f) (matchFound_ens s)) hne
  | _ => exact absurd rfl hne

/-- Settles O54: a transition that writes STATUS ends the cycle or clears it. -/
theorem whoWritesStatus : Obligations.WhoWritesStatus := by
  intro i s t hexec hne
  cases transition_of_exec hexec with
  | ended o => exact .inl ⟨rfl, by simp⟩
  | decoded => exact .inl ⟨rfl, by simp⟩
  | rejected => exact .inl ⟨rfl, by simp⟩
  | matched =>
    rcases matchFound_outcome s with ⟨hdone, hcode⟩ | ⟨_, hsame⟩
    · exact .inl ⟨hdone, by simp [hcode]⟩
    · exact absurd hsame hne
  | requested hst => exact .inr ⟨rfl, .inr ⟨rfl, hst⟩⟩
  | reset => exact .inr ⟨rfl, .inl rfl⟩
  | _ => exact absurd rfl hne

end Sys2Proof.Machine
end

section
/-! PROOF. The invariants of `10_state.md` rule R35 in parts (storage, progress of the sequencer,
outcome, inputs), and that reset meets them and every transition keeps them. -/

namespace Sys2Proof.Machine

/-! ### The parts of the invariant -/

/-- No marker pair lies wholly below PTR (R35 item 2). -/
def State.NoPairBefore (s : State) : Prop := ∀ j, j + 1 < s.ptr.toNat →
  ¬(s.buf.read j = some 0x7D#8 ∧ s.buf.read (j + 1) = some 0x01#8)

/-- Both memories are canonical and in their spaces, and PTR and BUFLEN delimit written bytes. -/
structure State.Stored (s : State) : Prop where
  buf_wf : s.buf.wf = true
  buf_within : s.buf.within Config.bufCap = true
  frame_wf : s.frame.wf = true
  frame_within : s.frame.within Config.frameLen = true
  ptr_le : s.ptr.toNat ≤ s.buflen.toNat
  buf_full : ∀ j < s.buflen.toNat, (s.buf.read j).isSome = true

/-- What the sequencer has found out so far, by the state it is in (R35 items 2 to 4). -/
def State.Progress (s : State) : Prop :=
  match s.st with
  | .hunt => s.NoPairBefore ∧
      (s.ptr.toNat = 0 ∨ s.buf.read (s.ptr.toNat - 1) ≠ some 0x7D#8)
  | .ident => s.NoPairBefore ∧ 1 ≤ s.ptr.toNat ∧ s.buf.read (s.ptr.toNat - 1) = some 0x7D#8
  | .capt => 2 ≤ s.cnt.toNat ∧ s.cnt.toNat ≤ 87 ∧ s.Captured
  | .check => s.cnt.toNat = 88 ∧ s.Captured
  | .decode => s.cnt.toNat = 88 ∧ s.Captured ∧ s.sum = s.ckrx
  | .idle | .waitrx | .done => True

/-- STATUS has a code exactly in DONE, and ENS is written, wholly, exactly after Success (R35
items 5 and 6). -/
def State.Settled (s : State) : Prop :=
  if s.st = .done then
    ∃ o, s.status = some o ∧
      if o = .success then s.ens.allWritten = true else s.ens = Ensemble.unwritten
  else s.status = none ∧ s.ens = Ensemble.unwritten

theorem allWritten_iff {e : Ensemble} :
    e.allWritten = true ↔ ∀ f, (ensGet e f).isSome = true := by
  simp [Ensemble.allWritten, mem_allFields]

theorem someWritten_iff {e : Ensemble} : e.someWritten = true ↔ e ≠ Ensemble.unwritten := by
  have hsome : e.someWritten = true ↔ ∃ f, ensGet e f ≠ none := by
    simp [Ensemble.someWritten, mem_allFields, Option.isSome_iff_ne_none]
  rw [hsome]
  constructor
  · rintro ⟨f, hf⟩ rfl
    exact hf (ensGet_unwritten f)
  · intro hne
    by_contra hnone
    push Not at hnone
    exact hne (ensemble_ext fun f => by rw [hnone f, ensGet_unwritten])

@[simp] theorem unwritten_allWritten : Ensemble.unwritten.allWritten = false := rfl

theorem allWritten_ne_unwritten {e : Ensemble} (h : e.allWritten = true) :
    e ≠ Ensemble.unwritten := by
  rintro rfl
  cases h

/-- The three outcome invariants of R35 say the same as `Settled`. -/
theorem settled_iff {s : State} : s.Settled ↔
    (s.status ≠ none ↔ s.st = .done) ∧
    (s.ens.someWritten = true ↔ s.st = .done ∧ s.status = some .success) ∧
    (s.ens.allWritten = true ↔ s.st = .done ∧ s.status = some .success) := by
  have hall := @allWritten_ne_unwritten s.ens
  rw [someWritten_iff, State.Settled]
  by_cases hdone : s.st = .done
  · rw [if_pos hdone]
    cases hstatus : s.status with
    | none => simp [hdone]
    | some o =>
      by_cases ho : o = .success
      · simpa [hdone, ho] using hall
      · simpa [hdone, ho] using fun hnone => by simp [hnone]
  · rw [if_neg hdone]
    simpa [hdone] using fun _ hnone => by simp [hnone]

/-- The invariant of R35 is the conjunction of its parts. -/
theorem inv_iff {s : State} : s.Inv ↔
    s.Stored ∧ s.Progress ∧ s.Settled ∧ ∀ x ∈ s.inputs, x.fromPort = true := by
  constructor
  · intro h
    refine ⟨⟨h.buf_wf, h.buf_within, h.frame_wf, h.frame_within, h.ptr_le, h.buf_full⟩, ?_,
      settled_iff.mpr ⟨h.status_done, h.ens_some, h.ens_all⟩, h.ports⟩
    unfold State.Progress
    split
    · next hst => exact ⟨h.no_pair_before (.inl hst), h.hunt_byte hst⟩
    · next hst => exact ⟨h.no_pair_before (.inr hst), h.ident_byte hst⟩
    · next hst => exact h.capt hst
    · next hst => exact h.full (.inl hst)
    · next hst =>
      obtain ⟨hcnt, hcap⟩ := h.full (.inr hst)
      exact ⟨hcnt, hcap, h.decode_eq hst⟩
    all_goals trivial
  · rintro ⟨hstored, hprog, hsettled, hports⟩
    obtain ⟨hstatus, hsome, hall⟩ := settled_iff.mp hsettled
    unfold State.Progress at hprog
    exact {
      hstored with
      no_pair_before := by rintro (hst | hst) <;> rw [hst] at hprog <;> exact hprog.1
      ident_byte := fun hst => by rw [hst] at hprog; exact hprog.2
      hunt_byte := fun hst => by rw [hst] at hprog; exact hprog.2
      capt := fun hst => by rw [hst] at hprog; exact hprog
      full := by
        rintro (hst | hst) <;> rw [hst] at hprog
        · exact hprog
        · obtain ⟨hcnt, hcap, _⟩ := hprog
          exact ⟨hcnt, hcap⟩
      decode_eq := fun hst => by
        rw [hst] at hprog
        obtain ⟨_, _, hsum⟩ := hprog
        exact hsum
      status_done := hstatus
      ens_some := hsome
      ens_all := hall
      ports := hports }

/-! ### The outcome -/

theorem State.Settled.busy {s : State} (h : s.Settled) (hst : s.st ≠ .done) :
    s.status = none ∧ s.ens = Ensemble.unwritten := by
  rwa [State.Settled, if_neg hst] at h

theorem settled_of_busy {t : State} (hst : t.st ≠ .done) (hstatus : t.status = none)
    (hens : t.ens = Ensemble.unwritten) : t.Settled := by
  rw [State.Settled, if_neg hst]
  exact ⟨hstatus, hens⟩

theorem settled_of_failure {t : State} {o : OutcomeCode} (hst : t.st = .done)
    (hstatus : t.status = some o) (ho : o ≠ .success) (hens : t.ens = Ensemble.unwritten) :
    t.Settled := by
  rw [State.Settled, if_pos hst]
  exact ⟨o, hstatus, by rwa [if_neg ho]⟩

theorem settled_of_success {t : State} (hst : t.st = .done) (hstatus : t.status = some .success)
    (hens : t.ens.allWritten = true) : t.Settled := by
  rw [State.Settled, if_pos hst]
  exact ⟨_, hstatus, by rwa [if_pos rfl]⟩

/-- Nothing is asked of the scan or the capture in IDLE, WAITRX and DONE. -/
theorem progress_of_resting {t : State} (hst : t.st = .idle ∨ t.st = .waitrx ∨ t.st = .done) :
    t.Progress := by
  unfold State.Progress
  rcases hst with hst | hst | hst <;> rw [hst] <;> trivial

/-! ### The scan -/

/-- One byte taken below BUFLEN keeps the storage invariant. -/
theorem State.Stored.advance {s : State} (h : s.Stored) (hlt : s.ptr.toNat < s.buflen.toNat) :
    s.advance.Stored :=
  { h with ptr_le := (toNat_ptr_succ hlt).symm ▸ hlt }

/-- Between the bytes before PTR there is a pair only if the last of them makes one (R104). -/
theorem State.NoPairBefore.advance {s : State} (h : s.NoPairBefore)
    (hlt : s.ptr.toNat < s.buflen.toNat)
    (hlast : 1 ≤ s.ptr.toNat → ¬(s.buf.read (s.ptr.toNat - 1) = some 0x7D#8 ∧
      s.buf.read s.ptr.toNat = some 0x01#8)) : s.advance.NoPairBefore := by
  intro j hj
  rw [State.advance_ptr, toNat_ptr_succ hlt] at hj
  by_cases hnew : j + 1 = s.ptr.toNat
  · have hj' : j = s.ptr.toNat - 1 := by omega
    subst hj'
    rw [hnew]
    exact hlast (by omega)
  · exact h j (by omega)

/-- What both scan states know. -/
theorem State.Progress.noPairBefore {s : State} (h : s.Progress)
    (hst : s.st = .hunt ∨ s.st = .ident) : s.NoPairBefore := by
  unfold State.Progress at h
  rcases hst with hst | hst <;> rw [hst] at h <;> exact h.1

/-- In HUNT the byte before PTR is no 0x7D. -/
theorem State.Progress.hunt_byte {s : State} (h : s.Progress) (hst : s.st = .hunt)
    (hptr : 1 ≤ s.ptr.toNat) : s.buf.read (s.ptr.toNat - 1) ≠ some 0x7D#8 := by
  unfold State.Progress at h
  rw [hst] at h
  obtain ⟨_, hzero | hne⟩ := h
  · omega
  · exact hne

/-- In ID the byte before PTR is 0x7D. -/
theorem State.Progress.ident_byte {s : State} (h : s.Progress) (hst : s.st = .ident) :
    1 ≤ s.ptr.toNat ∧ s.buf.read (s.ptr.toNat - 1) = some 0x7D#8 := by
  unfold State.Progress at h
  rw [hst] at h
  exact h.2

/-- A scan step that goes on keeps the promise of the state it enters (R35 item 2). -/
theorem progress_of_scanned {s : State} {b : Byte} {st' : SeqState} (h : s.Progress)
    (hst : s.st = .hunt ∨ s.st = .ident) (hlt : s.ptr.toNat < s.buflen.toNat)
    (hb : s.buf.read s.ptr.toNat = some b)
    (hst' : st' = .ident ∧ b = 0x7D#8 ∨
      st' = .hunt ∧ b ≠ 0x7D#8 ∧ (s.st = .ident → b ≠ 0x01#8)) :
    ({ s with ptr := s.ptr + 1#8, st := st' } : State).Progress := by
  have hptr := toNat_ptr_succ hlt
  have hpair : s.advance.NoPairBefore := by
    refine (h.noPairBefore hst).advance hlt fun hpos => ?_
    rintro ⟨hprev, hcur⟩
    obtain rfl : b = 0x01#8 := Option.some.inj (hb.symm.trans hcur)
    rcases hst with hst | hst
    · exact h.hunt_byte hst hpos hprev
    · rcases hst' with ⟨_, hb7D⟩ | ⟨_, _, hb01⟩
      · exact absurd hb7D (by decide)
      · exact hb01 hst rfl
  have hprev : s.buf.read ((s.ptr + 1#8).toNat - 1) = some b := by
    rw [hptr, Nat.add_sub_cancel, hb]
  rcases hst' with ⟨rfl, rfl⟩ | ⟨rfl, hne, _⟩
  · exact ⟨hpair, hptr ▸ Nat.le_add_left .., hprev⟩
  · exact ⟨hpair, .inr fun hc => hne (Option.some.inj (hprev.symm.trans hc))⟩

/-! ### The capture -/

/-- What is captured is said of the buffer, the frame and the working registers alone. -/
theorem State.Captured.of_eq {s t : State} (h : s.Captured)
    (ht : { t with
      st := s.st, numformat := s.numformat, ens := s.ens, status := s.status, inputs := s.inputs,
      history := s.history, draws := s.draws } = s) : t.Captured := by
  rw [← ht] at h
  exact { h with }

theorem frameBytes_succ {frame : Memory} {n : Nat} {b : Byte} (hb : frame.read n = some b) :
    frameBytes frame (n + 1) = frameBytes frame n ++ [b] := by
  simp [frameBytes, List.range_succ, List.filterMap_append, hb]

/-- The first n bytes of a frame depend on its first n cells alone. -/
theorem frameBytes_congr {frame frame' : Memory} {n : Nat}
    (h : ∀ j < n, frame.read j = frame'.read j) : frameBytes frame n = frameBytes frame' n :=
  List.filterMap_congr fun j hj => h j (List.mem_range.mp hj)

theorem byteSum_append_singleton (l : List Byte) (b : Byte) :
    byteSum (l ++ [b]) = byteSum l + b.toNat := by simp [byteSum]

/-- One more byte in the frame is one more accumulation (R121). -/
theorem frameSum_succ {frame : Memory} {n : Nat} {b : Byte} (hb : frame.read n = some b) :
    frameSum frame (n + 1) = frameSum frame n + zext 16 b := by
  apply BitVec.eq_of_toNat_eq
  rw [frameSum, frameBytes_succ hb, byteSum_append_singleton, frameSum]
  simp only [BitVec.toNat_add, BitVec.toNat_ofNat, BitVec.toNat_setWidth]
  omega

/-- A byte written at or past cell n is not in the sum of the first n. -/
theorem frameSum_write_of_le {frame : Memory} {n a : Nat} {b : Byte} (h : n ≤ a) :
    frameSum (frame.write a b) n = frameSum frame n := by
  rw [frameSum, frameBytes_congr fun j hj => Memory.read_write_other frame a j b (by omega)]
  rfl

/-- SUM follows the frame: the bytes at 0 to 85 are summed, those at 86 and 87 are not (R29). -/
theorem frameSum_write_min (frame : Memory) (n : Nat) (b : Byte) :
    frameSum (frame.write n b) (min (n + 1) 86) =
      if n < 86 then frameSum frame (min n 86) + zext 16 b else frameSum frame (min n 86) := by
  split
  · next h =>
    rw [Nat.min_eq_left (by omega), Nat.min_eq_left (by omega),
      frameSum_succ (Memory.read_write_same frame n b), frameSum_write_of_le (Nat.le_refl n)]
  · next h => rw [Nat.min_eq_right (by omega), Nat.min_eq_right (by omega),
      frameSum_write_of_le (by omega)]

/-- CNT + 1 does not wrap while a frame is captured. -/
theorem toNat_cnt_succ {cnt : BitVec 7} (h : cnt.toNat ≤ 87) :
    (cnt + 1#7).toNat = cnt.toNat + 1 := by
  simp only [BitVec.toNat_add, BitVec.toNat_ofNat]
  omega

/-- A capture step keeps the frame a copy of the buffer, and SUM, LEN and CKRX in step with it (R35
items 3 and 4, R28, R30). -/
theorem State.Captured.captureByte {s : State} {b : Byte} (h : s.Captured)
    (hlo : 2 ≤ s.cnt.toNat) (hhi : s.cnt.toNat ≤ 87) (hlt : s.ptr.toNat < s.buflen.toNat)
    (hb : s.buf.read s.ptr.toNat = some b) : (s.captureByte b).Captured := by
  have hcnt : (s.captureByte b).cnt.toNat = s.cnt.toNat + 1 := toNat_cnt_succ hhi
  have hread (c : Nat) : (s.captureByte b).frame.read c =
      if c = s.cnt.toNat then some b else s.frame.read c := Memory.read_write s.frame _ c b
  have hptr : s.ptr.toNat = s.off.toNat + s.cnt.toNat := h.ptr_eq
  have hlow := h.len_low
  have hhigh := h.len_high
  have hcklow := h.ckrx_low
  exact
    { ptr_eq := by
        rw [State.captureByte_ptr, toNat_ptr_succ hlt, hcnt, hptr]
        rfl
      fits := h.fits
      copy := fun j hj => by
        rw [hread]
        split
        · next hnew =>
          subst hnew
          rw [← hb, hptr]
          rfl
        · exact h.copy j (by omega)
      id_byte := by rw [hread, if_neg (by omega), h.id_byte]
      fmt_byte := by rw [hread, if_neg (by omega), h.fmt_byte]
      sum_eq := by
        rw [hcnt, State.captureByte_frame]
        refine Eq.trans ?_ (frameSum_write_min s.frame s.cnt.toNat b).symm
        rw [← h.sum_eq]
        rfl
      -- each byte of LEN and CKRX is the one just written, or was there and is kept
      len_low := by
        rw [hread, hcnt, State.captureByte_len]
        grind [lowByte_withLow, lowByte_withHigh]
      len_high := by
        rw [hread, hcnt, State.captureByte_len]
        grind [highByte_withHigh]
      ckrx_low := by
        rw [hread, hcnt, State.captureByte_ckrx]
        grind [lowByte_withLow, lowByte_withHigh]
      ckrx_high := by
        rw [hread, hcnt, State.captureByte_ckrx]
        grind [highByte_withHigh] }

/-- A capture step leaves the state that CNT then stands for. -/
theorem progress_of_captured {s : State} {b : Byte} (h : s.Captured) (hlo : 2 ≤ s.cnt.toNat)
    (hhi : s.cnt.toNat ≤ 87) (hlt : s.ptr.toNat < s.buflen.toNat)
    (hb : s.buf.read s.ptr.toNat = some b) : (s.captureByte b).Progress := by
  have hcap := h.captureByte hlo hhi hlt hb
  have hcnt : (s.captureByte b).cnt.toNat = s.cnt.toNat + 1 := toNat_cnt_succ hhi
  unfold State.Progress
  by_cases hlast : s.cnt.toNat = 87
  · rw [State.captureByte_st, if_pos hlast]
    exact ⟨by omega, hcap⟩
  · rw [State.captureByte_st, if_neg hlast]
    exact ⟨by omega, by omega, hcap⟩

theorem State.Stored.captureByte {s : State} {b : Byte} (h : s.Stored)
    (hhi : s.cnt.toNat ≤ 87) (hlt : s.ptr.toNat < s.buflen.toNat) : (s.captureByte b).Stored :=
  { h.advance hlt with
    frame_wf := Memory.write_wf _ _ _ h.frame_wf
    frame_within := Memory.write_within _ _ _ _ (Nat.lt_succ_of_le hhi) h.frame_within }

/-- The two marker bytes are the first two of the frame (R35 item 3, R109). -/
theorem captured_of_matchFound {s : State} (hst : (matchFound s).st = .capt)
    (hptr : 1 ≤ s.ptr.toNat) (hlt : s.ptr.toNat < s.buflen.toNat)
    (hprev : s.buf.read (s.ptr.toNat - 1) = some 0x7D#8)
    (hcur : s.buf.read s.ptr.toNat = some 0x01#8) :
    (matchFound s).cnt = 2#7 ∧ (matchFound s).Captured := by
  have hoff : (s.ptr - 1#8).toNat = s.ptr.toNat - 1 := by
    have := s.ptr.isLt
    simp only [BitVec.toNat_sub, BitVec.toNat_ofNat]
    omega
  rcases matchFound_cases s with ⟨_, hm⟩ | ⟨hfits, hm⟩ <;> rw [hm] at hst ⊢
  · cases hst
  have hzero : ((s.frame.write 0 0x7D#8).write 1 0x01#8).read 0 = some 0x7D#8 := by
    simp [Memory.read_write]
  have hone : ((s.frame.write 0 0x7D#8).write 1 0x01#8).read 1 = some 0x01#8 := by simp
  refine ⟨rfl,
    { ptr_eq := ?_, fits := hfits, copy := fun j hj => ?_, id_byte := hzero, fmt_byte := hone,
      sum_eq := ?_, len_low := fun hc => absurd hc (Nat.not_le.mpr (by decide : 2 < 3)),
      len_high := fun hc => absurd hc (Nat.not_le.mpr (by decide : 2 < 4)),
      ckrx_low := fun hc => absurd hc (Nat.not_le.mpr (by decide : 2 < 87)),
      ckrx_high := fun hc => absurd hc (Nat.not_le.mpr (by decide : 2 < 88)) }⟩
  · change (s.ptr + 1#8).toNat = (s.ptr - 1#8).toNat + 2
    rw [toNat_ptr_succ hlt, hoff]
    omega
  · change _ = s.buf.read ((s.ptr - 1#8).toNat + j)
    change j < 2 at hj
    rw [hoff]
    obtain rfl | rfl : j = 0 ∨ j = 1 := by omega
    · exact hzero.trans hprev.symm
    · rw [Nat.sub_add_cancel hptr]
      exact hone.trans hcur.symm
  · change 0x007E#16 = frameSum _ 2
    rw [frameSum_succ hone, frameSum_succ hzero]
    rfl

theorem State.Stored.matchFound {s : State} (h : s.Stored)
    (hlt : s.ptr.toNat < s.buflen.toNat) : (matchFound s).Stored := by
  rcases matchFound_cases s with ⟨_, hm⟩ | ⟨_, hm⟩ <;> rw [hm]
  · exact { h.advance hlt with }
  · exact { h.advance hlt with
      frame_wf := Memory.write_wf _ _ _ (Memory.write_wf _ _ _ h.frame_wf)
      frame_within := Memory.write_within _ _ _ _ (by decide)
        (Memory.write_within _ _ _ _ (by decide) h.frame_within) }

/-! ### Every transition keeps the invariant -/

/-- A registers' change outside R35 keeps it, with any inputs that a port presents. -/
theorem State.Inv.of_eq {s t : State} (h : s.Inv)
    (ht : { t with
      numformat := s.numformat, inputs := s.inputs, history := s.history, draws := s.draws } = s)
    (hports : ∀ x ∈ t.inputs, x.fromPort = true) : t.Inv := by
  rw [← ht] at h
  exact { h with
    capt := fun hst =>
      have ⟨hlo, hhi, hcap⟩ := h.capt hst
      ⟨hlo, hhi, { hcap with }⟩
    full := fun hst =>
      have ⟨hcnt, hcap⟩ := h.full hst
      ⟨hcnt, { hcap with }⟩
    ports := hports }

/-- A failure ends the cycle with nothing in the ensemble (R219). -/
theorem State.Inv.raise {s : State} {o : OutcomeCode} (h : s.Inv) (hst : s.st ≠ .done)
    (ho : o ≠ .success) : (s.raise o).Inv := by
  obtain ⟨hstored, _, hsettled, hports⟩ := inv_iff.mp h
  exact inv_iff.mpr ⟨{ hstored with }, progress_of_resting (.inr (.inr rfl)),
    settled_of_failure rfl rfl ho (hsettled.busy hst).2, hports⟩

/-- Settles O48: both memories are empty and no cycle has begun. -/
theorem invariantsHoldAtReset : Obligations.InvariantsHoldAtReset :=
  inv_iff.mpr ⟨⟨rfl, rfl, rfl, rfl, Nat.le_refl _, fun _ hj => absurd hj (Nat.not_lt_zero _)⟩,
    progress_of_resting (.inl rfl), settled_of_busy (by decide) rfl rfl, fun _ hx => nomatch hx⟩

/-- The re-initialised block holds no valid byte in BUF and nothing in ENS (R36). -/
theorem stored_of_empty {s t : State} (h : s.Stored) (hbuf : t.buf = s.buf)
    (hframe : t.frame = s.frame) (hlen : t.buflen = 0#8) (hptr : t.ptr = 0#8) : t.Stored where
  buf_wf := hbuf ▸ h.buf_wf
  buf_within := hbuf ▸ h.buf_within
  frame_wf := hframe ▸ h.frame_wf
  frame_within := hframe ▸ h.frame_within
  ptr_le := by simp [hptr]
  buf_full j hj := by simp [hlen] at hj

/-- A delivery of 255 bytes fills BUF (R193). -/
theorem stored_of_delivered {s : State} {d : List Byte} {st' : SeqState} (h : s.Stored)
    (hd : d.length = 255) :
    ({ s with buf := Memory.load d, buflen := 255#8, ptr := 0#8, st := st' } : State).Stored where
  buf_wf := Memory.load_wf d
  buf_within := Memory.load_within d _ (Nat.le_of_eq hd)
  frame_wf := h.frame_wf
  frame_within := h.frame_within
  ptr_le := Nat.zero_le _
  buf_full j hj := by
    have hj' : j < d.length := hd ▸ hj
    simp [hj']

/-- Every transition but a lone stage, which no port presents, keeps the invariants of R35. -/
theorem Transition.inv {i : Instr} {s t : State} (h : Transition s i t) (hs : s.Inv)
    (hi : i.format ≠ .fx) : t.Inv := by
  obtain ⟨hstored, hprog, hsettled, hports⟩ := inv_iff.mp hs
  cases h with
  | ignored => exact hs
  | answered => exact hs.of_eq rfl hports
  | rejected =>
    exact inv_iff.mpr ⟨stored_of_empty hstored rfl rfl rfl rfl,
      progress_of_resting (.inr (.inr rfl)), settled_of_failure rfl rfl (by decide) rfl, hports⟩
  | requested =>
    exact inv_iff.mpr ⟨stored_of_empty hstored rfl rfl rfl rfl,
      progress_of_resting (.inr (.inl rfl)), settled_of_busy (by simp) rfl rfl, hports⟩
  | delivered hst hd =>
    obtain ⟨hstatus, hens⟩ := hsettled.busy (by simp [hst])
    exact inv_iff.mpr ⟨stored_of_delivered hstored hd,
      ⟨fun j hj => absurd hj (Nat.not_lt_zero _), .inl rfl⟩,
      settled_of_busy (by simp) hstatus hens, hports⟩
  | ended o _ ho hst =>
    refine hs.raise ?_ ho
    rcases hst with hst | ⟨hst | hst, _⟩ | hst <;> simp [hst]
  | scanned b st' _ hst hlt hb hst' =>
    obtain ⟨hstatus, hens⟩ := hsettled.busy (by rcases hst with hst | hst <;> simp [hst])
    have hbusy : st' ≠ .done := by rcases hst' with ⟨rfl, _⟩ | ⟨rfl, _⟩ <;> decide
    exact inv_iff.mpr ⟨{ hstored.advance hlt with }, progress_of_scanned hprog hst hlt hb hst',
      settled_of_busy hbusy hstatus hens, hports⟩
  | matched hst hlt hb =>
    obtain ⟨hstatus, hens⟩ := hsettled.busy (by simp [hst])
    obtain ⟨hpos, hprev⟩ := hprog.ident_byte hst
    have hens' : (matchFound s).ens = Ensemble.unwritten := by rw [matchFound_ens, hens]
    have hports' : ∀ x ∈ (matchFound s).inputs, x.fromPort = true := by rwa [matchFound_inputs]
    rcases matchFound_outcome s with ⟨hdone, hcode⟩ | ⟨hcapt, hcode⟩
    · exact inv_iff.mpr ⟨hstored.matchFound hlt, progress_of_resting (.inr (.inr hdone)),
        settled_of_failure hdone hcode (by decide) hens', hports'⟩
    · refine inv_iff.mpr ⟨hstored.matchFound hlt, ?_,
        settled_of_busy (by simp [hcapt]) (hcode.trans hstatus) hens', hports'⟩
      obtain ⟨hcnt, hcaptured⟩ := captured_of_matchFound hcapt hpos hlt hprev hb
      rw [State.Progress, hcapt]
      exact ⟨by simp [hcnt], by simp [hcnt], hcaptured⟩
  | captured b _ hst hlo hhi hlt hb =>
    obtain ⟨hstatus, hens⟩ := hsettled.busy (by simp [hst])
    have hbusy : (s.captureByte b).st ≠ .done := by
      rw [State.captureByte_st]
      split <;> simp
    obtain ⟨_, _, hcaptured⟩ := hs.capt hst
    exact inv_iff.mpr ⟨hstored.captureByte hhi hlt, progress_of_captured hcaptured hlo hhi hlt hb,
      settled_of_busy hbusy hstatus hens, hports⟩
  | checked hst hsum =>
    obtain ⟨hstatus, hens⟩ := hsettled.busy (by simp [hst])
    obtain ⟨hcnt, hcaptured⟩ := hs.full (.inl hst)
    exact inv_iff.mpr ⟨{ hstored with }, ⟨hcnt, hcaptured.of_eq rfl, hsum⟩,
      settled_of_busy (by simp) hstatus hens, hports⟩
  | decoded hst he =>
    have hall := allWritten_iff.mpr (extractAll_field_isSome he)
    exact inv_iff.mpr ⟨{ hstored with }, progress_of_resting (.inr (.inr rfl)),
      settled_of_success rfl rfl hall, hports⟩
  | staged f => exact absurd (stageOf_format f) hi
  | reset => exact invariantsHoldAtReset.of_eq rfl hports

/-- Settles O49: a step is a wait, or a transition by an operation that a port or the sequencer
presents. -/
theorem everyStepKeepsTheInvariants : Obligations.EveryStepKeepsTheInvariants := by
  intro s t hs hstep
  have hconsumed : s.consume.Inv :=
    hs.of_eq rfl fun x hx => hs.ports x (List.mem_of_mem_tail hx)
  rcases step_next hstep with ⟨_, rfl⟩ | ⟨sig, i, hsig, hdec, hexec⟩
  · exact hconsumed
  · refine (transition_of_exec hexec).inv hconsumed ?_
    rcases decode_of_ports hs.ports hsig hdec with hi | hi | hi | hi <;> rw [hi] <;> decide

end Sys2Proof.Machine
end

section
/-! PROOF. Cycles do not depend on the past (`10_state.md` rules R36, R37): two blocks that agree on
all that a later step reads go on agreeing, and an accepted START makes any two agree. -/

namespace Sys2Proof.Machine

/-- Two blocks that a host cannot tell apart from here on: they agree on every register that a later
step reads, on the valid bytes of BUF, and on the bytes of FRAME captured in this cycle. -/
structure State.LooksLike (s s' : State) : Prop where
  st : s'.st = s.st
  buflen : s'.buflen = s.buflen
  ptr : s'.ptr = s.ptr
  cnt : s'.cnt = s.cnt
  sum : s'.sum = s.sum
  ckrx : s'.ckrx = s.ckrx
  ens : s'.ens = s.ens
  status : s'.status = s.status
  inputs : s'.inputs = s.inputs
  buf : ∀ j < s.buflen.toNat, s'.buf.read j = s.buf.read j
  frame_capt : s.st = .capt → ∀ j < s.cnt.toNat, s'.frame.read j = s.frame.read j
  frame_full : s.st = .check ∨ s.st = .decode → ∀ j < 88, s'.frame.read j = s.frame.read j

/-! ### What the second block reads -/

theorem memRead_congr {m m' : Memory} {j n : Nat}
    (h : ∀ i < n, m'.read (j + i) = m.read (j + i)) : memRead m' j n = memRead m j n := by
  induction n generalizing j with
  | zero => rfl
  | succ n ih =>
    have hhead : m'.read j = m.read j := h 0 (Nat.succ_pos n)
    have htail : memRead m' (j + 1) n = memRead m (j + 1) n :=
      ih fun i hi => by
        have := h (i + 1) (Nat.succ_lt_succ hi)
        rwa [Nat.add_comm i 1, ← Nat.add_assoc] at this
    rw [memRead, memRead, hhead, htail]

/-- The fields lie in the frame (R80, R141), so its 88 bytes decide what is extracted. -/
theorem extractField_congr {frame frame' : Memory}
    (h : ∀ j < 88, frame'.read j = frame.read j) (f : Field) :
    extractField frame' f = extractField frame f :=
  memRead_congr fun i hi => h _ (by cases f <;> simp only [fieldOffset, fieldBytes] at * <;> omega)

theorem extractInto_congr {frame frame' : Memory}
    (h : ∀ f, extractField frame' f = extractField frame f) (fs : List Field) (e : Ensemble) :
    extractInto frame' fs e = extractInto frame fs e := by
  induction fs generalizing e with
  | nil => rfl
  | cons f rest ih => simp only [extractInto, h f, ih]

theorem State.LooksLike.bufByte {s s' : State} (h : s.LooksLike s') : s'.bufByte = s.bufByte := by
  unfold State.bufByte
  rw [h.ptr, h.buflen]
  split
  · next hlt => rw [h.buf s.ptr.toNat hlt]
  · rfl

/-- Both blocks find the same operation. -/
theorem State.LooksLike.fetch {s s' : State} (h : s.LooksLike s') : s'.fetch = s.fetch := by
  have hlook : s'.look = s.look := by rw [State.look, State.look, h.ptr, h.buflen, h.bufByte]
  have hselect : selectStep s' = selectStep s := by
    simp only [selectStep, lookSignal, h.st, h.cnt, hlook]
  rw [State.fetch, State.fetch, h.inputs, hselect]

/-! ### Where the first block goes on, so does the second -/

/-- The second result follows the first: to a next state it answers one that looks like it. -/
def Follows (r r' : Result) : Prop := ∀ t, r = .next t → ∃ t', r' = .next t' ∧ t.LooksLike t'

theorem follows_next {t t' : State} (h : t.LooksLike t') : Follows (.next t) (.next t') := by
  rintro _ ⟨rfl⟩
  exact ⟨t', rfl, h⟩

theorem follows_fault {f : Fault} {r' : Result} : Follows (.fault f) r' :=
  fun _ h => by cases h

theorem follows_refused {e : Refusal} {r' : Result} : Follows (.refused e) r' :=
  fun _ h => by cases h

/-- Both take the same branch of a test on what they agree on. -/
theorem follows_ite {c c' : Prop} [Decidable c] [Decidable c'] {a b a' b' : Result} (hc : c' ↔ c)
    (htrue : c → Follows a a') (hfalse : ¬c → Follows b b') :
    Follows (if c then a else b) (if c' then a' else b') := by
  by_cases h : c
  · rw [if_pos h, if_pos (hc.mpr h)]; exact htrue h
  · rw [if_neg h, if_neg (mt hc.mp h)]; exact hfalse h

/-- Both read the same byte of BUF. -/
theorem State.LooksLike.follows_onByte {s s' : State} {k k' : Byte → Result} (h : s.LooksLike s')
    (hk : ∀ b, Follows (k b) (k' b)) : Follows (s.onByte k) (s'.onByte k') := by
  rw [State.onByte, State.onByte, h.bufByte]
  split
  · exact hk _
  · exact follows_fault

theorem State.LooksLike.consume {s s' : State} (h : s.LooksLike s') :
    s.consume.LooksLike s'.consume :=
  { h with inputs := congrArg List.tail h.inputs }

theorem State.LooksLike.emit {s s' : State} (h : s.LooksLike s') (e e' : Event) :
    (s.emit e).LooksLike (s'.emit e') := { h with }

theorem State.LooksLike.advance {s s' : State} (h : s.LooksLike s') :
    s.advance.LooksLike s'.advance := { h with ptr := congrArg (· + 1#8) h.ptr }

/-- Outside CAPT, CHECK and DECODE nothing is asked of FRAME. -/
theorem State.LooksLike.enter {s s' : State} (h : s.LooksLike s') {st : SeqState}
    (hst : st = .hunt ∨ st = .ident ∨ st = .done) :
    ({ s with st := st } : State).LooksLike { s' with st := st } :=
  { h with
    st := rfl
    frame_capt := by rintro rfl; simp at hst
    frame_full := by rintro (rfl | rfl) <;> simp at hst }

theorem State.LooksLike.raise {s s' : State} (h : s.LooksLike s') (o : OutcomeCode) :
    (s.raise o).LooksLike (s'.raise o) :=
  { h.enter (.inr (.inr rfl)) with status := rfl }

/-- A cell written alike in both frames extends what they agree on. -/
theorem read_write_congr {frame frame' : Memory} {n : Nat} {b : Byte}
    (h : ∀ j < n, frame'.read j = frame.read j) :
    ∀ j < n + 1, (frame'.write n b).read j = (frame.write n b).read j := by
  intro j hj
  rw [Memory.read_write, Memory.read_write]
  split
  · rfl
  · exact h j (by omega)

/-- Both capture the same byte. -/
theorem State.LooksLike.captureByte {s s' : State} (h : s.LooksLike s') (hst : s.st = .capt)
    (hhi : s.cnt.toNat ≤ 87) (b : Byte) : (s.captureByte b).LooksLike (s'.captureByte b) := by
  have hframe : ∀ j < s.cnt.toNat + 1,
      (s'.captureByte b).frame.read j = (s.captureByte b).frame.read j := by
    rw [State.captureByte_frame, State.captureByte_frame, h.cnt]
    exact read_write_congr (h.frame_capt hst)
  have hcnt : (s.captureByte b).cnt.toNat = s.cnt.toNat + 1 := toNat_cnt_succ hhi
  exact
    { h with
      st := by rw [State.captureByte_st, State.captureByte_st, h.cnt]
      ptr := congrArg (· + 1#8) h.ptr
      cnt := congrArg (· + 1#7) h.cnt
      sum := by simp only [State.captureByte, h.cnt, h.sum]
      ckrx := by simp only [State.captureByte_ckrx, h.cnt, h.ckrx]
      frame_capt := fun _ => hcnt ▸ hframe
      frame_full := fun hfull => by
        have hlast : s.cnt.toNat = 87 := by
          by_contra hne
          rw [State.captureByte_st, if_neg hne] at hfull
          simp at hfull
        rwa [hlast] at hframe }

/-- Both start the capture of the frame at the same pair, or both end the cycle. -/
theorem State.LooksLike.matchFound {s s' : State} (h : s.LooksLike s') :
    (matchFound s).LooksLike (matchFound s') := by
  have hoff : s'.ptr - 1#8 = s.ptr - 1#8 := congrArg (· - 1#8) h.ptr
  rcases matchFound_cases s with ⟨hpast, hm⟩ | ⟨hfits, hm⟩ <;>
    rcases matchFound_cases s' with ⟨hpast', hm'⟩ | ⟨hfits', hm'⟩ <;> rw [hm, hm']
  · exact { h.advance.raise .streamTruncated with }
  · rw [hoff, h.buflen] at hfits'; omega
  · rw [hoff, h.buflen] at hpast'; omega
  · exact
      { h.advance with
        st := rfl
        cnt := rfl
        sum := rfl
        frame_capt := fun _ => read_write_congr (read_write_congr fun j hj => by omega)
        frame_full := fun hst => by rcases hst with hst | hst <;> cases hst }

/-- An accepted START wipes out every difference: what it leaves of BUF and FRAME no step reads
(R36). -/
theorem follows_start {s s' : State} {nf : BitVec 8} (hst : s.st = .idle ∨ s.st = .done)
    (hst' : s'.st = .idle ∨ s'.st = .done) (hinputs : s'.inputs = s.inputs) :
    Follows (exec (.start nf) s) (exec (.start nf) s') := by
  have hlike {st : SeqState} {status : Option OutcomeCode} (hr : st = .waitrx ∨ st = .done) :
      ({ s.reinit nf with st := st, status := status } : State).LooksLike
        { s'.reinit nf with st := st, status := status } :=
    { st := rfl, buflen := rfl, ptr := rfl, cnt := rfl, sum := rfl, ckrx := rfl, ens := rfl
      status := rfl, inputs := hinputs
      buf := fun j hj => absurd hj (Nat.not_lt_zero j)
      frame_capt := by rintro rfl; simp at hr
      frame_full := by rintro (rfl | rfl) <;> simp at hr }
  refine follows_ite (iff_of_true hst' hst) (fun _ => ?_) (fun hc => absurd hst hc)
  exact follows_ite Iff.rfl (fun _ => follows_next ((hlike (.inl rfl)).emit _ _))
    (fun _ => follows_next (hlike (.inr rfl)))

theorem State.LooksLike.follows_deliver {s s' : State} (h : s.LooksLike s') (d : List Byte) :
    Follows (exec (.deliver d) s) (exec (.deliver d) s') := by
  refine follows_ite Iff.rfl (fun _ => ?_) (fun _ => follows_refused)
  refine follows_ite (by rw [h.st]) (fun _ => ?_) (fun _ => follows_next h)
  refine follows_ite Iff.rfl (fun _ => follows_next (h.raise _)) (fun _ => ?_)
  refine follows_ite Iff.rfl (fun _ => follows_next (h.raise _)) (fun _ => follows_next ?_)
  exact { h.enter (.inl rfl) with buflen := rfl, ptr := rfl, buf := fun _ _ => rfl }

/-- A scan step that reads a byte is enabled in both and reads the same one. -/
theorem State.LooksLike.follows_byteStep {s s' : State} (h : s.LooksLike s') (st : SeqState)
    {k k' : Byte → Result} (hk : ∀ b, Follows (k b) (k' b)) :
    Follows (if s.st = st then s.onByte k else .fault .stepNotEnabled)
      (if s'.st = st then s'.onByte k' else .fault .stepNotEnabled) :=
  follows_ite (by rw [h.st]) (fun _ => h.follows_onByte hk) (fun _ => follows_fault)

/-- A capture step of the first block is one of the second. -/
theorem State.LooksLike.follows_capture {s s' : State} (h : s.LooksLike s') {i : Instr}
    (hi : IsCapture i) : Follows (exec i s) (exec i s') := by
  obtain ⟨lo, hi', _, hhi, hexec⟩ := exec_capture_eq hi
  rw [hexec, hexec]
  refine follows_ite (by rw [h.st, h.cnt]) (fun hc => ?_) (fun _ => follows_fault)
  obtain ⟨hst, _, hchi⟩ := hc
  exact h.follows_onByte fun b => follows_next (h.captureByte hst (hchi.trans hhi) b)

theorem State.LooksLike.follows_check {s s' : State} (h : s.LooksLike s') :
    Follows (exec .check s) (exec .check s') := by
  refine follows_ite (by rw [h.st]) (fun hst => ?_) (fun _ => follows_fault)
  refine follows_ite (by rw [h.sum, h.ckrx]) (fun _ => follows_next ?_)
    (fun _ => follows_next (h.raise _))
  exact
    { h with
      st := rfl
      frame_capt := fun hst => by cases hst
      frame_full := fun _ => h.frame_full (.inl hst) }

theorem State.LooksLike.follows_decode {s s' : State} (h : s.LooksLike s') :
    Follows (exec .decode s) (exec .decode s') := by
  refine follows_ite (by rw [h.st]) (fun hst => ?_) (fun _ => follows_fault)
  have hall : extractAll s'.frame = extractAll s.frame :=
    extractInto_congr (extractField_congr (h.frame_full (.inr hst))) _ _
  rw [hall]
  cases extractAll s.frame with
  | none => exact follows_fault
  | some e =>
    have hwritten : ({ s with ens := e } : State).LooksLike { s' with ens := e } :=
      { h with ens := rfl }
    exact follows_next (hwritten.raise .success)

/-- RESET wipes out every difference too (R39). -/
theorem State.LooksLike.follows_reset {s s' : State} (h : s.LooksLike s') :
    Follows (exec .reset s) (exec .reset s') :=
  follows_next
    { st := rfl, buflen := rfl, ptr := rfl, cnt := rfl, sum := rfl, ckrx := rfl, ens := rfl
      status := rfl, inputs := h.inputs, buf := fun _ _ => rfl, frame_capt := fun _ _ _ => rfl
      frame_full := fun _ _ _ => rfl }

/-- Every operation but a lone stage, which reads FRAME in any state, treats both blocks alike. -/
theorem State.LooksLike.follows_exec {s s' : State} (h : s.LooksLike s') {i : Instr}
    (hi : i.format = .host ∨ i.format = .xport ∨ i.format = .reset ∨ i.format = .step) :
    Follows (exec i s) (exec i s') := by
  cases i
  case nop => exact follows_next h
  case start nf =>
    by_cases hst : s.st = .idle ∨ s.st = .done
    · exact follows_start hst (h.st ▸ hst) h.inputs
    · exact follows_ite (by rw [h.st]) (fun hc => absurd hc hst) (fun _ => follows_next h)
  case rdstat => exact follows_next (h.emit _ _)
  case rdfld k => exact follows_next (h.emit _ _)
  case deliver d => exact h.follows_deliver d
  case huntEnd | idEnd =>
    exact follows_ite (by rw [h.st, h.ptr, h.buflen]) (fun _ => follows_next (h.raise _))
      (fun _ => follows_fault)
  case huntId =>
    refine h.follows_byteStep .hunt fun b => ?_
    exact follows_ite Iff.rfl (fun _ => follows_next (h.advance.enter (.inr (.inl rfl))))
      (fun _ => follows_fault)
  case huntSkip =>
    refine h.follows_byteStep .hunt fun b => ?_
    exact follows_ite Iff.rfl (fun _ => follows_fault) (fun _ => follows_next h.advance)
  case idMatch =>
    refine h.follows_byteStep .ident fun b => ?_
    exact follows_ite Iff.rfl (fun _ => follows_next h.matchFound) (fun _ => follows_fault)
  case idAgain =>
    refine h.follows_byteStep .ident fun b => ?_
    exact follows_ite Iff.rfl (fun _ => follows_next h.advance) (fun _ => follows_fault)
  case idMiss =>
    refine h.follows_byteStep .ident fun b => ?_
    exact follows_ite Iff.rfl (fun _ => follows_fault)
      (fun _ => follows_next (h.advance.enter (.inl rfl)))
  case captLenlo => exact h.follows_capture (by simp [IsCapture])
  case captLenhi => exact h.follows_capture (by simp [IsCapture])
  case captBody => exact h.follows_capture (by simp [IsCapture])
  case captCklo => exact h.follows_capture (by simp [IsCapture])
  case captCkhi => exact h.follows_capture (by simp [IsCapture])
  case check => exact h.follows_check
  case decode => exact h.follows_decode
  case reset => exact h.follows_reset
  all_goals simp [Instr.format] at hi

/-! ### Runs -/

/-- The next step of the one block is the next step of the other. -/
theorem State.LooksLike.follows_step {s s' : State} (h : s.LooksLike s')
    (hports : ∀ x ∈ s.inputs, x.fromPort = true) : Follows (step s) (step s') := by
  rw [step, step, h.fetch]
  cases hf : s.fetch with
  | waiting => exact follows_next h.consume
  | fault f => exact follows_fault
  | signal sig =>
    simp only [runFetched]
    cases hdec : decode sig with
    | error e => exact follows_refused
    | ok i => exact h.consume.follows_exec (decode_of_ports hports hf hdec)

/-- No operation takes or adds an input. -/
theorem Transition.inputs {i : Instr} {s t : State} (h : Transition s i t) :
    t.inputs = s.inputs := by
  cases h with
  | matched => exact matchFound_inputs s
  | _ => rfl

/-- A step takes the oldest input and no other. -/
theorem step_inputs {s t : State} (h : step s = .next t) : t.inputs = s.inputs.tail := by
  rcases step_next h with ⟨_, rfl⟩ | ⟨_, i, _, _, hexec⟩
  · rfl
  · exact (transition_of_exec hexec).inputs

/-- A run of `k + 1` steps of a machine goes on through a first one. -/
theorem run_succ_next {M : Host.Core} {k : Nat} {s t : M.State} :
    M.run (k + 1) s = .next t ↔ ∃ u, M.step s = .next u ∧ M.run k u = .next t := by
  rw [Host.Core.run]
  cases M.step s <;> simp

/-- As long as the one block runs, so does the other, and they keep looking alike. -/
theorem State.LooksLike.run {k : Nat} {s s' t : State} (h : s.LooksLike s')
    (hports : ∀ x ∈ s.inputs, x.fromPort = true)
    (hrun : Host.Core.run Sys2Proof.core k s = .next t) :
    ∃ t', Host.Core.run Sys2Proof.core k s' = .next t' ∧ t.LooksLike t' := by
  induction k generalizing s s' with
  | zero =>
    cases hrun
    exact ⟨s', rfl, h⟩
  | succ k ih =>
    obtain ⟨u, hstep, hrest⟩ := (run_succ_next (M := Sys2Proof.core)).mp hrun
    obtain ⟨u', hstep', hu⟩ := h.follows_step hports u hstep
    have hports' : ∀ x ∈ u.inputs, x.fromPort = true := fun x hx =>
      hports x (List.mem_of_mem_tail (step_inputs hstep ▸ hx))
    obtain ⟨t', hrest', ht⟩ := ih hu hports' hrest
    exact ⟨t', (run_succ_next (M := Sys2Proof.core)).mpr ⟨u', hstep', hrest'⟩, ht⟩

/-- A pending START is what the next step runs. -/
theorem step_start {s : State} {nf : BitVec 8} {rest : List Input}
    (h : s.inputs = .command (commandWord 0b01#2 0#6 nf) :: rest) :
    step s = exec (.start nf) s.consume := by
  have hfetch : s.fetch = .signal (.command (commandWord 0b01#2 0#6 nf)) := by
    rw [State.fetch, h]
  rw [step, hfetch]
  simp [runFetched, decode, decodeCommand]

/-- Settles O57: the START leaves two blocks that look alike, and no later step tells them apart. -/
theorem cyclesDoNotDependOnThePast : Obligations.CyclesDoNotDependOnThePast := by
  intro s s' nf rest hst hst' hinputs hsame hports k t hrun
  obtain ⟨u, hstep, hrest⟩ := (run_succ_next (M := Sys2Proof.core)).mp hrun
  have hstarted : Follows (step s) (step s') := by
    rw [step_start hinputs, step_start (hsame.trans hinputs)]
    exact follows_start hst hst' (congrArg List.tail hsame)
  obtain ⟨u', hstep', hu⟩ := hstarted u hstep
  have hleft : u.inputs = rest := by rw [step_inputs hstep, hinputs, List.tail_cons]
  obtain ⟨t', hrest', ht⟩ := hu.run (hleft ▸ hports) hrest
  exact ⟨t', (run_succ_next (M := Sys2Proof.core)).mpr ⟨u', hstep', hrest'⟩,
    ht.st, ht.status, ht.ens⟩

end Sys2Proof.Machine
end

section
/-! PROOF. The command words of the caller host and the field selectors (`30_encoding.md` rules R83,
R88): what the decoder reads in them, and that it reads back what the encoder writes. -/

namespace Sys2Proof.Machine

/-! ### Command words -/

theorem decode_command_nop (k : BitVec 6) (a : BitVec 8) :
    decode (.command (commandWord 0b00#2 k a)) = .ok .nop := by
  simp [decode, decodeCommand]

theorem decode_command_start (k : BitVec 6) (a : BitVec 8) :
    decode (.command (commandWord 0b01#2 k a)) = .ok (.start a) := by
  simp [decode, decodeCommand]

theorem decode_command_rdstat (k : BitVec 6) (a : BitVec 8) :
    decode (.command (commandWord 0b10#2 k a)) = .ok .rdstat := by
  simp [decode, decodeCommand]

theorem decode_command_rdfld (k : BitVec 6) (a : BitVec 8) :
    decode (.command (commandWord 0b11#2 k a)) = .ok (.rdfld k) := by
  simp [decode, decodeCommand]

/-- The three bit fields of R83 are the whole word. -/
theorem commandWord_bits (w : BitVec 16) :
    commandWord (cmdBits w) (fselBits w) (argBits w) = w := by
  apply BitVec.eq_of_toNat_eq
  have hw := w.isLt
  simp only [toNat_commandWord, cmdBits, fselBits, argBits, BitVec.extractLsb'_toNat,
    Nat.shiftRight_eq_div_pow]
  omega

/-- Settles O5: CMD alone selects the operation, and the three fields make up every word. -/
theorem everyCommandWordDecodes : Obligations.EveryCommandWordDecodes :=
  ⟨fun k a => ⟨decode_command_nop k a, decode_command_start k a, decode_command_rdstat k a,
      decode_command_rdfld k a⟩,
    fun w => ⟨cmdBits w, fselBits w, argBits w, (commandWord_bits w).symm⟩⟩

/-! ### Field selectors -/

/-- The number k of a field: its place in the table (R88). -/
def fieldNumber (f : Field) : BitVec 6 := BitVec.ofNat 6 (allFields.idxOf f)

theorem toNat_fieldNumber (f : Field) : (fieldNumber f).toNat = allFields.idxOf f := by
  have hlt : allFields.idxOf f < 41 := List.idxOf_lt_length_of_mem (mem_allFields f)
  exact Nat.mod_eq_of_lt (by omega)

/-- A field's number selects that field. -/
theorem fieldOfSelector_fieldNumber (f : Field) : fieldOfSelector (fieldNumber f) = some f := by
  rw [fieldOfSelector_eq, toNat_fieldNumber]
  exact List.getElem?_idxOf (mem_allFields f)

/-- The selectors from 41 on select nothing. -/
theorem fieldOfSelector_of_reserved {k : BitVec 6} (h : 41 ≤ k.toNat) :
    fieldOfSelector k = none := by
  rw [fieldOfSelector_eq]
  exact List.getElem?_eq_none h

theorem decode_stage_of_field {k : BitVec 6} {f : Field} (h : fieldOfSelector k = some f) :
    decode (.stage k) = .ok (stageOf f) := by
  simp only [decode, h]

theorem decode_stage_of_reserved {k : BitVec 6} (h : fieldOfSelector k = none) :
    decode (.stage k) = .error (.reservedSelector k) := by
  simp only [decode, h]

/-- The encoder writes the number of the stage's field. -/
theorem encode_stageOf (f : Field) : encode (stageOf f) = .stage (fieldNumber f) := by
  cases f <;> rfl

/-- Settles O6: a stage is read back through the number of its field, a command word through its bit
fields, an operation on a byte sequence because the sequence fits; the rest is one signal each. -/
theorem decodeOfEncodeIsTheInstruction : Obligations.DecodeOfEncodeIsTheInstruction := by
  intro i hwf
  by_cases hfx : i.format = .fx
  · obtain ⟨f, rfl⟩ := eq_stageOf_of_format hfx
    rw [encode_stageOf]
    exact decode_stage_of_field (fieldOfSelector_fieldNumber f)
  cases i
  case nop => exact decode_command_nop _ _
  case start nf => exact decode_command_start _ nf
  case rdstat => exact decode_command_rdstat _ _
  case rdfld k => exact decode_command_rdfld k _
  case deliver | sync | validate | decodefn | acquire => exact if_pos hwf
  case huntEnd | huntId | huntSkip | idEnd | idMatch | idAgain | idMiss => rfl
  case captLenlo | captLenhi | captBody | captCklo | captCkhi | check | decode => rfl
  case pd5 | reset => rfl
  all_goals exact absurd rfl hfx

/-- Settles O7: the words are concrete, so the decoder is evaluated on each. -/
theorem specWordsDecode : Obligations.SpecWordsDecode := by
  unfold Obligations.SpecWordsDecode
  decide

/-! ### The table of fields -/

/-- Where a list rises in `r`, exactly `n` of its members lie below its `n`-th. -/
theorem length_filter_lt_getElem {α : Type} {r : α → Nat} {l : List α}
    (hl : l.Pairwise fun x y => r x < r y) {n : Nat} (hn : n < l.length) :
    (l.filter fun x => r x < r l[n]).length = n := by
  induction l generalizing n with
  | nil => cases hn
  | cons a l ih =>
    obtain ⟨ha, hl⟩ := List.pairwise_cons.mp hl
    cases n with
    | zero =>
      have hnone : ∀ x ∈ l, ¬ r x < r a := fun x hx => Nat.lt_asymm (ha x hx)
      simpa using hnone
    | succ n =>
      have hn : n < l.length := Nat.lt_of_succ_lt_succ hn
      have hlt : r a < r l[n] := ha _ (List.getElem_mem hn)
      simpa [hlt] using ih hl hn

/-- The table lists the fields in the order of their frame offsets (R80). -/
theorem allFields_sorted : allFields.Pairwise fun f g => fieldOffset f < fieldOffset g := by
  decide

/-- Settles O9: selector k is a place in the table, and the offsets rise along the table. -/
theorem selectorsNumberTheFields : Obligations.SelectorsNumberTheFields := by
  intro k
  constructor
  · intro hk
    have hlt : k.toNat < allFields.length := Nat.lt_succ_of_le hk
    have hsel : fieldOfSelector k = some allFields[k.toNat] := by
      rw [fieldOfSelector_eq, List.getElem?_eq_getElem hlt]
    exact ⟨_, hsel, decode_stage_of_field hsel, length_filter_lt_getElem allFields_sorted hlt⟩
  · intro hk
    have hsel := fieldOfSelector_of_reserved hk
    exact ⟨hsel, decode_stage_of_reserved hsel⟩

/-- Field `f` covers frame offset `j`. -/
def Covers (f : Field) (j : Nat) : Prop := fieldOffset f ≤ j ∧ j < fieldOffset f + fieldBytes f

/-- The fields of a list lie end to end, from offset `a` up to offset `e`. -/
def Tiles (a : Nat) : List Field → Nat → Prop
  | [], e => a = e
  | f :: fs, e => fieldOffset f = a ∧ Tiles (a + fieldBytes f) fs e

/-- Fields that lie end to end stay inside the range they fill. -/
theorem Tiles.bounds {a e : Nat} {fs : List Field} (h : Tiles a fs e) :
    a ≤ e ∧ ∀ f ∈ fs, a ≤ fieldOffset f ∧ fieldOffset f + fieldBytes f ≤ e := by
  induction fs generalizing a with
  | nil => exact ⟨Nat.le_of_eq h, by simp⟩
  | cons g fs ih =>
    obtain ⟨hg, hrest⟩ := h
    obtain ⟨hle, hfs⟩ := ih hrest
    refine ⟨by omega, List.forall_mem_cons.mpr ⟨by omega, fun f hf => ?_⟩⟩
    have := hfs f hf
    omega

/-- Each offset of that range is covered by exactly one of them. -/
theorem Tiles.existsUnique {a e j : Nat} {fs : List Field} (h : Tiles a fs e) (ha : a ≤ j)
    (he : j < e) : ∃ f ∈ fs, Covers f j ∧ ∀ g ∈ fs, Covers g j → g = f := by
  induction fs generalizing a with
  | nil => cases h; omega
  | cons f fs ih =>
    obtain ⟨hf, hrest⟩ := h
    by_cases hj : j < a + fieldBytes f
    · refine ⟨f, List.mem_cons_self, ⟨by omega, by omega⟩, ?_⟩
      refine List.forall_mem_cons.mpr ⟨fun _ => rfl, fun g hg hc => ?_⟩
      have hafter := (hrest.bounds.2 g hg).1
      have hbefore := hc.1
      omega
    · obtain ⟨g, hg, hc, huniq⟩ := ih hrest (Nat.le_of_not_lt hj)
      refine ⟨g, List.mem_cons_of_mem f hg, hc, ?_⟩
      exact List.forall_mem_cons.mpr ⟨fun hcf => by have := hcf.2; omega, huniq⟩

/-- The 41 fields fill the frame end to end (R80). -/
theorem allFields_tile : Tiles 0 allFields 88 := by
  simp [Tiles, allFields, fieldOffset, fieldBytes]

/-- Settles O8: fields that lie end to end from 0 to 88 share no offset and leave none out. -/
theorem fieldsTileTheFrame : Obligations.FieldsTileTheFrame := by
  constructor
  · intro j
    obtain ⟨f, -, hc, huniq⟩ := allFields_tile.existsUnique (Nat.zero_le j.val) j.isLt
    exact ⟨f, hc, fun g hlo hhi => huniq g (mem_allFields g) ⟨hlo, hhi⟩⟩
  · exact fun f => (allFields_tile.bounds.2 f (mem_allFields f)).2

end Sys2Proof.Machine
end

section
/-! PROOF. How a step finds its operation (`30_encoding.md` rules R83, R85, R87), and the header
match of R81. -/

namespace Sys2Proof.Machine

/-! ### What a step runs -/

/-- A step whose signal decodes runs that operation on the state with its input taken. -/
theorem step_of_fetch {s : State} {sig : Signal} {i : Instr} (hfetch : s.fetch = .signal sig)
    (hdec : decode sig = .ok i) : step s = exec i s.consume := by
  simp only [step, hfetch, runFetched, hdec]

/-- Settles O1: that is how a step is made. -/
theorem stepRunsDecodedOperation : Obligations.StepRunsDecodedOperation :=
  fun _ _ _ hfetch hdec => step_of_fetch hfetch hdec

theorem decode_delivery {d : List Byte} (h : d.length ≤ 255) :
    decode (.delivery d) = .ok (.deliver d) :=
  if_pos (decide_eq_true h)

/-- Settles O2: a pending input is the signal fetched, and each of these decodes. -/
theorem presentedInputsRunTheirOperation : Obligations.PresentedInputsRunTheirOperation := by
  intro s rest k a bytes
  exact ⟨step_of_fetch rfl (decode_command_nop k a), step_of_fetch rfl (decode_command_start k a),
    step_of_fetch rfl (decode_command_rdstat k a), step_of_fetch rfl (decode_command_rdfld k a),
    fun h => step_of_fetch rfl (decode_delivery h), step_of_fetch rfl rfl⟩

/-! ### The block's own step -/

/-- No row of R87 is for IDLE, WAITRX or DONE. -/
theorem selectStep_waiting {s : State} (h : s.st = .idle ∨ s.st = .waitrx ∨ s.st = .done) :
    selectStep s = .waiting := by
  rcases h with h | h | h <;> simp only [selectStep, h]

theorem step_of_waiting {s : State} (h : s.fetch = .waiting) : step s = .next s.consume := by
  simp only [step, h, runFetched]

/-- Settles O3: nothing is selected there, and a step that finds nothing only takes the input. -/
theorem statesWithoutAStepOnlyWait : Obligations.StatesWithoutAStepOnlyWait :=
  fun _ hown hst => step_of_waiting ((fetch_of_ownStep hown).trans (selectStep_waiting hst))

/-- Where nobody acts, the step run is what the sequencer's signal decodes to. -/
theorem State.ownStep.selects {s : State} {sig : Signal} {i : Instr} (h : s.ownStep)
    (hsel : selectStep s = .signal sig) (hdec : decode sig = .ok i) : s.selects i :=
  ⟨sig, (fetch_of_ownStep h).trans hsel, hdec⟩

/-- In HUNT the look at BUF[PTR] selects. -/
theorem selectStep_hunt {s : State} {look : Option Byte} (hst : s.st = .hunt)
    (hlook : s.look = .ok look) : selectStep s = .signal (.hunt look) := by
  simp only [selectStep, hst, lookSignal, hlook]

/-- And so in ID. -/
theorem selectStep_ident {s : State} {look : Option Byte} (hst : s.st = .ident)
    (hlook : s.look = .ok look) : selectStep s = .signal (.ident look) := by
  simp only [selectStep, hst, lookSignal, hlook]

theorem selectStep_capt {s : State} (hst : s.st = .capt) :
    selectStep s = .signal (.capt s.cnt) := by
  simp only [selectStep, hst]

theorem selectStep_check {s : State} (hst : s.st = .check) : selectStep s = .signal .check := by
  simp only [selectStep, hst]

theorem selectStep_decode {s : State} (hst : s.st = .decode) :
    selectStep s = .signal .decode := by
  simp only [selectStep, hst]

theorem look_of_end {s : State} (h : s.ptr = s.buflen) : s.look = .ok none :=
  State.look_ok.mpr (.inl ⟨h, rfl⟩)

theorem look_of_read {s : State} {b : Byte} (hlt : s.ptr.toNat < s.buflen.toNat)
    (hb : s.buf.read s.ptr.toNat = some b) : s.look = .ok (some b) :=
  State.look_ok.mpr (.inr ⟨b, rfl, hlt, hb⟩)

theorem decode_hunt_some (b : Byte) :
    decode (.hunt (some b)) = .ok (if b = 0x7D#8 then .huntId else .huntSkip) := rfl

theorem decode_ident_some (b : Byte) : decode (.ident (some b)) =
    .ok (if b = 0x01#8 then .idMatch else if b = 0x7D#8 then .idAgain else .idMiss) := rfl

/-- The rows of CAPT, told apart by CNT. -/
theorem decode_capt_body {cnt : BitVec 7} (hlo : 4 ≤ cnt.toNat) (hhi : cnt.toNat ≤ 85) :
    decode (.capt cnt) = .ok .captBody := by
  have h2 : cnt.toNat ≠ 2 := by omega
  have h3 : cnt.toNat ≠ 3 := by omega
  have hrange : 4 ≤ cnt.toNat ∧ cnt.toNat < 86 := by omega
  rw [decode, decodeCapt_eq, if_neg h2, if_neg h3, if_pos hrange]

/-- The rows of CAPT at a single value of CNT. -/
theorem decode_capt_at {cnt : BitVec 7} {n : Nat} {i : Instr} (hcnt : cnt.toNat = n)
    (h : decode (.capt (BitVec.ofNat 7 n)) = .ok i) : decode (.capt cnt) = .ok i := by
  rwa [← hcnt, BitVec.ofNat_toNat, BitVec.setWidth_eq] at h

/-- Settles O4: one row of R87 after another, by what the sequencer looks at in that state. -/
theorem sequencerStepSelection : Obligations.SequencerStepSelection := by
  intro s hown
  refine ⟨fun hst hp => ?huntEnd, fun b hst hlt hb => ?hunt, fun hst hp => ?idEnd,
    fun b hst hlt hb => ?ident, fun hst hc => ?lenlo, fun hst hc => ?lenhi,
    fun hst hlo hhi => ?body, fun hst hc => ?cklo, fun hst hc => ?ckhi, fun hst => ?check,
    fun hst => ?decode, fun hst => ?waiting⟩
  case huntEnd => exact hown.selects (selectStep_hunt hst (look_of_end hp)) rfl
  case hunt =>
    exact hown.selects (selectStep_hunt hst (look_of_read hlt hb)) (decode_hunt_some b)
  case idEnd => exact hown.selects (selectStep_ident hst (look_of_end hp)) rfl
  case ident =>
    exact hown.selects (selectStep_ident hst (look_of_read hlt hb)) (decode_ident_some b)
  case lenlo | lenhi | cklo | ckhi =>
    exact hown.selects (selectStep_capt hst) (decode_capt_at hc rfl)
  case body => exact hown.selects (selectStep_capt hst) (decode_capt_body hlo hhi)
  case check => exact hown.selects (selectStep_check hst) rfl
  case decode => exact hown.selects (selectStep_decode hst) rfl
  case waiting => exact (fetch_of_ownStep hown).trans (selectStep_waiting hst)

/-! ### The header match -/

/-- R81: under its mask, the little-endian pair of two bytes is the header number exactly when they
are the marker. -/
theorem masked_pair_eq_headerPair_iff (a b : Byte) :
    (zext 16 a ||| zext 16 b <<< 8) &&& 0xFFFF#16 = Config.headerPair ↔
      a = 0x7D#8 ∧ b = 0x01#8 := by
  have ha := a.isLt
  have hmask : ∀ pair : BitVec 16, pair &&& 0xFFFF#16 = pair := fun _ => BitVec.and_allOnes
  rw [hmask, headerPair_eq, ← BitVec.toNat_inj, ← BitVec.toNat_inj, ← BitVec.toNat_inj,
    or_shift_two]
  simp only [BitVec.toNat_ofNat]
  omega

/-- Settles O37: below BUFLEN the two bytes are compared as one number, beyond it no pair starts. -/
theorem headerMatchIsTheMarkerPair : Obligations.HeaderMatchIsTheMarkerPair := by
  intro s i
  constructor
  · intro a b hlt ha hb
    rw [exec, execPd5, if_pos hlt, memRead_two ha hb]
    exact congrArg (fun m => (.next (s.emit (.header m)) : Result))
      (decide_eq_decide.mpr (masked_pair_eq_headerPair_iff a b))
  · intro hle
    exact if_neg (Nat.not_lt.mpr hle)

end Sys2Proof.Machine
end

section
/-! PROOF. The sizes of the byte sequences that operations take (log entry 10), and SYNC by the
first marker pair (`40_synchronizer.md` rule R100). -/

namespace Sys2Proof.Machine

/-! ### Sizes -/

theorem deliveryFits_iff {d : List Byte} : deliveryFits d = true ↔ d.length ≤ 255 :=
  decide_eq_true_iff

theorem bufferFits_iff {l : List Byte} : bufferFits l = true ↔ l.length ≤ 255 :=
  decide_eq_true_iff

theorem frameFits_iff {f : List Byte} : frameFits f = true ↔ f.length = 88 := decide_eq_true_iff

/-- Settles O17: each of the five tests the size before anything else. -/
theorem wrongSizesAreRefused : Obligations.WrongSizesAreRefused := by
  intro s l nf
  refine ⟨fun hlong => ?_, fun hne => ?_⟩
  · have hdelivery : ¬deliveryFits l = true := mt deliveryFits_iff.mp (Nat.not_le.mpr hlong)
    have hbuffer : ¬bufferFits l = true := mt bufferFits_iff.mp (Nat.not_le.mpr hlong)
    exact ⟨if_neg hdelivery, if_neg hbuffer, if_neg hdelivery⟩
  · have hframe : ¬frameFits l = true := mt frameFits_iff.mp hne
    exact ⟨if_neg hframe, if_neg hframe⟩

/-! ### The first marker pair -/

theorem pairAt_iff {d : List Byte} {j : Nat} :
    pairAt d j = true ↔ d[j]? = some 0x7D#8 ∧ d[j + 1]? = some 0x01#8 := by
  simp [pairAt]

theorem pairAt_lt {d : List Byte} {j : Nat} (h : pairAt d j = true) : j + 1 < d.length :=
  (List.getElem?_eq_some_iff.mp (pairAt_iff.mp h).2).1

/-- `firstPair` searches below the length, and no pair lies beyond it. -/
theorem firstPair_eq_none_iff {d : List Byte} :
    firstPair d = none ↔ ∀ j, ¬pairAt d j = true := by
  simp only [firstPair, List.find?_range_eq_none, Bool.not_eq_true', Bool.not_eq_true]
  refine ⟨fun h j => Bool.eq_false_iff.mpr fun hpair => ?_, fun h j _ => h j⟩
  have hlt := pairAt_lt hpair
  exact Bool.eq_false_iff.mp (h j (by omega)) hpair

theorem firstPair_eq_some_iff {d : List Byte} {i : Nat} :
    firstPair d = some i ↔ pairAt d i = true ∧ ∀ j < i, ¬pairAt d j = true := by
  simp only [firstPair, List.find?_range_eq_some, List.mem_range, Bool.not_eq_true',
    Bool.not_eq_true]
  refine ⟨fun ⟨hpair, _, hfirst⟩ => ⟨hpair, hfirst⟩, fun ⟨hpair, hfirst⟩ => ⟨hpair, ?_, hfirst⟩⟩
  have := pairAt_lt hpair
  omega

/-! ### SYNC -/

theorem syncFn_of_none {d : List Byte} (h : firstPair d = none) : syncFn d = .frameNotFound := by
  rw [syncFn, h]

theorem syncFn_of_some {d : List Byte} {i : Nat} (h : firstPair d = some i) :
    syncFn d = if i + 88 > d.length then .streamTruncated else .candidateFrame i := by
  rw [syncFn, h]

theorem exec_sync {l : List Byte} (h : l.length ≤ 255) (s : State) :
    exec (.sync l) s = .next (s.emit (.synced (syncFn l))) :=
  if_pos (bufferFits_iff.mpr h)

/-- Settles O38: SYNC is `syncFn`, which asks only for the first pair. -/
theorem syncFindsTheFirstPair : Obligations.SyncFindsTheFirstPair := by
  intro s l hlen
  refine ⟨fun hnone => ?_, fun i h7D h01 hfirst => ?_⟩
  · have hsearch : firstPair l = none :=
      firstPair_eq_none_iff.mpr fun j hpair => hnone j (pairAt_iff.mp hpair)
    rw [exec_sync hlen, syncFn_of_none hsearch]
    rfl
  · have hsearch : firstPair l = some i := firstPair_eq_some_iff.mpr
      ⟨pairAt_iff.mpr ⟨h7D, h01⟩, fun j hj hpair => hfirst j hj (pairAt_iff.mp hpair)⟩
    rw [exec_sync hlen, syncFn_of_some hsearch]
    rfl

/-! What each answer of SYNC says of the first pair. -/

theorem firstPair_of_frameNotFound {d : List Byte} (h : syncFn d = .frameNotFound) :
    firstPair d = none := by
  cases hpair : firstPair d with
  | none => rfl
  | some i => rw [syncFn_of_some hpair] at h; split at h <;> cases h

theorem firstPair_of_streamTruncated {d : List Byte} (h : syncFn d = .streamTruncated) :
    ∃ i, firstPair d = some i ∧ i + 88 > d.length := by
  cases hpair : firstPair d with
  | none => rw [syncFn_of_none hpair] at h; cases h
  | some i =>
    rw [syncFn_of_some hpair] at h
    split at h
    · next hlong => exact ⟨i, rfl, hlong⟩
    · cases h

theorem firstPair_of_candidateFrame {d : List Byte} {i : Nat} (h : syncFn d = .candidateFrame i) :
    firstPair d = some i ∧ i + 88 ≤ d.length := by
  cases hpair : firstPair d with
  | none => rw [syncFn_of_none hpair] at h; cases h
  | some k =>
    rw [syncFn_of_some hpair] at h
    split at h
    · cases h
    · next hfits => cases h; exact ⟨rfl, Nat.not_lt.mp hfits⟩

end Sys2Proof.Machine
end

section
/-! PROOF. The scan steps of HUNT and ID (`40_synchronizer.md` rules R105 to R111), first as
operations, then as steps of the block. -/

namespace Sys2Proof.Machine

/-! ### The operations -/

section
variable {s : State} {b : Byte}

theorem exec_huntEnd (hst : s.st = .hunt) (hp : s.ptr = s.buflen) :
    exec .huntEnd s = .next (s.raise .frameNotFound) := if_pos ⟨hst, hp⟩

theorem exec_idEnd (hst : s.st = .ident) (hp : s.ptr = s.buflen) :
    exec .idEnd s = .next (s.raise .frameNotFound) := if_pos ⟨hst, hp⟩

theorem exec_huntSkip (hst : s.st = .hunt) (hlt : s.ptr.toNat < s.buflen.toNat)
    (hb : s.buf.read s.ptr.toNat = some b) (hne : b ≠ 0x7D#8) :
    exec .huntSkip s = .next s.advance :=
  (if_pos hst).trans ((State.onByte_of_read hlt hb).trans (if_neg hne))

theorem exec_huntId (hst : s.st = .hunt) (hlt : s.ptr.toNat < s.buflen.toNat)
    (hb : s.buf.read s.ptr.toNat = some 0x7D#8) :
    exec .huntId s = .next { s.advance with st := .ident } :=
  (if_pos hst).trans ((State.onByte_of_read hlt hb).trans (if_pos rfl))

theorem exec_idMatch (hst : s.st = .ident) (hlt : s.ptr.toNat < s.buflen.toNat)
    (hb : s.buf.read s.ptr.toNat = some 0x01#8) :
    exec .idMatch s = .next (matchFound s) :=
  (if_pos hst).trans ((State.onByte_of_read hlt hb).trans (if_pos rfl))

theorem exec_idAgain (hst : s.st = .ident) (hlt : s.ptr.toNat < s.buflen.toNat)
    (hb : s.buf.read s.ptr.toNat = some 0x7D#8) :
    exec .idAgain s = .next s.advance :=
  (if_pos hst).trans ((State.onByte_of_read hlt hb).trans (if_pos rfl))

theorem exec_idMiss (hst : s.st = .ident) (hlt : s.ptr.toNat < s.buflen.toNat)
    (hb : s.buf.read s.ptr.toNat = some b) (h01 : b ≠ 0x01#8) (h7D : b ≠ 0x7D#8) :
    exec .idMiss s = .next { s.advance with st := .hunt } :=
  (if_pos hst).trans ((State.onByte_of_read hlt hb).trans (if_neg (not_or.mpr ⟨h01, h7D⟩)))

end

/-- Settles O22: each of the three in the state and on the byte that enable it. -/
theorem huntSteps : Obligations.HuntSteps := fun _ _ hst =>
  ⟨exec_huntEnd hst, exec_huntSkip hst, fun hlt hb h7D => exec_huntId hst hlt (h7D ▸ hb)⟩

/-- Settles O23: the same for ID. -/
theorem identSteps : Obligations.IdentSteps := fun _ _ hst =>
  ⟨exec_idEnd hst, fun hlt hb h7D => exec_idAgain hst hlt (h7D ▸ hb), exec_idMiss hst⟩

/-- PTR - 1 does not wrap past the start of the buffer. -/
theorem toNat_ptr_pred {ptr : BitVec 8} (h : 1 ≤ ptr.toNat) :
    (ptr - 1#8).toNat = ptr.toNat - 1 := by
  have := ptr.isLt
  simp only [BitVec.toNat_sub, BitVec.toNat_ofNat]
  omega

@[simp] theorem matchFound_off (s : State) : (matchFound s).off = s.ptr - 1#8 := by
  rcases matchFound_cases s with ⟨_, hm⟩ | ⟨_, hm⟩ <;> rw [hm]

/-- R109 where the frame runs past the buffer. -/
theorem matchFound_of_truncated {s : State} (hptr : 1 ≤ s.ptr.toNat)
    (hlong : s.ptr.toNat - 1 + 88 > s.buflen.toNat) :
    matchFound s = { s with
      off := s.ptr - 1#8, ptr := s.ptr + 1#8, status := some .streamTruncated, st := .done } := by
  rcases matchFound_cases s with ⟨_, hm⟩ | ⟨hfits, _⟩
  · exact hm
  · rw [toNat_ptr_pred hptr] at hfits
    omega

/-- R109 where it fits. -/
theorem matchFound_of_fits {s : State} (hptr : 1 ≤ s.ptr.toNat)
    (hfits : s.ptr.toNat - 1 + 88 ≤ s.buflen.toNat) :
    matchFound s = { s with
      off := s.ptr - 1#8, ptr := s.ptr + 1#8, frame := (s.frame.write 0 0x7D#8).write 1 0x01#8,
      sum := 0x007E#16, cnt := 2#7, st := .capt } := by
  rcases matchFound_cases s with ⟨hlong, _⟩ | ⟨_, hm⟩
  · rw [toNat_ptr_pred hptr] at hlong
    omega
  · exact hm

/-- Settles O24: the two outcomes of the bounds check, and the two cells written in the second. -/
theorem idMatchFindsTheFrame : Obligations.IdMatchFindsTheFrame := by
  intro s hst hptr hlt hb
  refine ⟨matchFound s, exec_idMatch hst hlt hb, ?_, ?_, fun hlong => ?_, fun hfits => ?_⟩
  · rw [matchFound_off, toNat_ptr_pred hptr]
  · rw [matchFound_ptr, toNat_ptr_succ hlt]
  · rw [matchFound_of_truncated hptr hlong]
  · rw [matchFound_of_fits hptr hfits]
    refine ⟨?_, Memory.read_write_same _ _ _, fun j hj => ?_, rfl⟩
    · rw [Memory.read_write_other _ _ _ _ (by decide), Memory.read_write_same]
    · rw [Memory.read_write_other _ _ _ _ (by omega), Memory.read_write_other _ _ _ _ (by omega)]

/-! ### The steps of the block -/

theorem step_of_selects {s : State} {i : Instr} (h : s.selects i) : step s = exec i s.consume := by
  obtain ⟨sig, hfetch, hdec⟩ := h
  exact step_of_fetch hfetch hdec

/-- The state after a scan state has read the byte `b`: 0x01 behind a 0x7D is the format byte, and
otherwise `b` alone decides between ID and HUNT (R106, R107, R109 to R111). -/
def State.scanByte (s : State) (b : Byte) : State :=
  if s.st = .ident ∧ b = 0x01#8 then matchFound s
  else { s with ptr := s.ptr + 1#8, st := if b = 0x7D#8 then .ident else .hunt }

theorem State.scanByte_of_match {s : State} (hst : s.st = .ident) :
    s.scanByte 0x01#8 = matchFound s := if_pos ⟨hst, rfl⟩

theorem State.scanByte_of_pass {s : State} {b : Byte} (h : ¬(s.st = .ident ∧ b = 0x01#8)) :
    s.scanByte b = { s with ptr := s.ptr + 1#8, st := if b = 0x7D#8 then .ident else .hunt } :=
  if_neg h

/-- The step that HUNT selects on a byte does what `scanByte` says. -/
theorem exec_hunt_byte {s : State} {b : Byte} (hst : s.st = .hunt)
    (hlt : s.ptr.toNat < s.buflen.toNat) (hb : s.buf.read s.ptr.toNat = some b) :
    exec (if b = 0x7D#8 then .huntId else .huntSkip) s = .next (s.scanByte b) := by
  rw [State.scanByte_of_pass (by simp [hst])]
  by_cases h7D : b = 0x7D#8
  · subst h7D
    exact exec_huntId hst hlt hb
  · rw [if_neg h7D, if_neg h7D, exec_huntSkip hst hlt hb h7D, ← hst]
    rfl

/-- And so the step that ID selects. -/
theorem exec_ident_byte {s : State} {b : Byte} (hst : s.st = .ident)
    (hlt : s.ptr.toNat < s.buflen.toNat) (hb : s.buf.read s.ptr.toNat = some b) :
    exec (if b = 0x01#8 then .idMatch else if b = 0x7D#8 then .idAgain else .idMiss) s =
      .next (s.scanByte b) := by
  by_cases h01 : b = 0x01#8
  · subst h01
    rw [State.scanByte_of_match hst]
    exact exec_idMatch hst hlt hb
  rw [if_neg h01, State.scanByte_of_pass (fun h => h01 h.2)]
  by_cases h7D : b = 0x7D#8
  · subst h7D
    rw [if_pos rfl, if_pos rfl, exec_idAgain hst hlt hb, ← hst]
    rfl
  · rw [if_neg h7D, if_neg h7D]
    exact exec_idMiss hst hlt hb h01 h7D

/-- In HUNT and ID the block's own step on an exhausted buffer raises FrameNotFound (R105, R108). -/
theorem step_of_scan_end {s : State} (hown : s.ownStep) (hst : s.st = .hunt ∨ s.st = .ident)
    (hp : s.ptr = s.buflen) : step s = .next (s.consume.raise .frameNotFound) := by
  rcases hst with hst | hst
  · rw [step_of_selects (hown.selects (selectStep_hunt hst (look_of_end hp)) rfl)]
    exact exec_huntEnd hst hp
  · rw [step_of_selects (hown.selects (selectStep_ident hst (look_of_end hp)) rfl)]
    exact exec_idEnd hst hp

/-- Before its end it takes the byte at PTR. -/
theorem step_of_scan_byte {s : State} {b : Byte} (hown : s.ownStep)
    (hst : s.st = .hunt ∨ s.st = .ident) (hlt : s.ptr.toNat < s.buflen.toNat)
    (hb : s.buf.read s.ptr.toNat = some b) : step s = .next (s.consume.scanByte b) := by
  rcases hst with hst | hst
  · rw [step_of_selects (hown.selects (selectStep_hunt hst (look_of_read hlt hb))
      (decode_hunt_some b))]
    exact exec_hunt_byte (s := s.consume) hst hlt hb
  · rw [step_of_selects (hown.selects (selectStep_ident hst (look_of_read hlt hb))
      (decode_ident_some b))]
    exact exec_ident_byte (s := s.consume) hst hlt hb

end Sys2Proof.Machine
end

section
/-! PROOF. The scan computes SYNC (`40_synchronizer.md` rule R113): while no marker pair has been
passed, the state after k steps is a function of the buffer and k. -/

namespace Sys2Proof.Machine

/-- One more step at the end of a run that goes on. -/
theorem run_succ_of_run {M : Host.Core} {k : Nat} {s t u : M.State} (h : M.run k s = .next t)
    (hstep : M.step t = .next u) : M.run (k + 1) s = .next u := by
  induction k generalizing s with
  | zero => cases h; exact run_succ_next.mpr ⟨u, hstep, rfl⟩
  | succ k ih =>
    obtain ⟨v, hfirst, hrest⟩ := run_succ_next.mp h
    exact run_succ_next.mpr ⟨v, hfirst, ih hrest⟩

/-- The state in which the scan of `d`, begun in `s`, stands before byte k: in ID exactly where the
byte before is 0x7D. -/
def State.scannedTo (s : State) (d : List Byte) (k : Nat) : State :=
  { s with
    ptr := BitVec.ofNat 8 k
    st := if 0 < k ∧ d[k - 1]? = some 0x7D#8 then .ident else .hunt }

theorem State.scannedTo_zero {s : State} {d : List Byte} (hst : s.st = .hunt) (hp : s.ptr = 0#8) :
    s.scannedTo d 0 = s := by
  simp [State.scannedTo, ← hst, ← hp]

theorem State.scannedTo_scans (s : State) (d : List Byte) (k : Nat) :
    (s.scannedTo d k).st = .hunt ∨ (s.scannedTo d k).st = .ident := by
  simp only [State.scannedTo]
  split
  · exact .inr rfl
  · exact .inl rfl

theorem State.scannedTo_st_ident {s : State} {d : List Byte} {k : Nat} :
    (s.scannedTo d k).st = .ident ↔ 0 < k ∧ d[k - 1]? = some 0x7D#8 := by
  simp [State.scannedTo]

theorem State.scannedTo_ptr {s : State} {d : List Byte} {k : Nat} (hlen : d.length = s.buflen.toNat)
    (hk : k ≤ d.length) : (s.scannedTo d k).ptr.toNat = k := by
  have := s.buflen.isLt
  simp only [State.scannedTo, BitVec.toNat_ofNat]
  omega

/-- A byte that completes no pair moves the scan on to the next one. -/
theorem State.scannedTo_scanByte {s : State} {d : List Byte} {k : Nat} {b : Byte}
    (hb : d[k]? = some b) (hpair : ∀ j, j + 1 = k → ¬pairAt d j = true) :
    (s.scannedTo d k).scanByte b = s.scannedTo d (k + 1) := by
  have hpass : ¬((s.scannedTo d k).st = .ident ∧ b = 0x01#8) := by
    rintro ⟨hst, rfl⟩
    obtain ⟨hpos, hprev⟩ := State.scannedTo_st_ident.mp hst
    have hk : k - 1 + 1 = k := Nat.sub_add_cancel hpos
    exact hpair (k - 1) hk (pairAt_iff.mpr ⟨hprev, hk.symm ▸ hb⟩)
  rw [State.scanByte_of_pass hpass]
  simp [State.scannedTo, hb, BitVec.ofNat_add]

/-- The scan of `d` may begin: HUNT at PTR = 0 with no host acting, and BUF holds `d`. -/
structure State.ScanStart (s : State) (d : List Byte) : Prop where
  st : s.st = .hunt
  ptr : s.ptr = 0#8
  inputs : s.inputs = []
  length_eq : d.length = s.buflen.toNat
  bytes : ∀ j < d.length, s.buf.read j = d[j]?

theorem consume_of_no_inputs {s : State} (h : s.inputs = []) : s.consume = s := by
  cases s
  cases h
  rfl

section
variable {s : State} {d : List Byte}

theorem State.ScanStart.consume_scannedTo (h : s.ScanStart d) (k : Nat) :
    (s.scannedTo d k).consume = s.scannedTo d k :=
  consume_of_no_inputs (s := s.scannedTo d k) h.inputs

theorem State.ScanStart.ownStep_scannedTo (h : s.ScanStart d) (k : Nat) :
    (s.scannedTo d k).ownStep := .inl h.inputs

/-- The step at byte k of the scan. -/
theorem State.ScanStart.step_scannedTo (h : s.ScanStart d) {k : Nat} {b : Byte}
    (hb : d[k]? = some b) : step (s.scannedTo d k) = .next ((s.scannedTo d k).scanByte b) := by
  have hk : k < d.length := (List.getElem?_eq_some_iff.mp hb).1
  have hptr := State.scannedTo_ptr h.length_eq hk.le
  have hlt : (s.scannedTo d k).ptr.toNat < (s.scannedTo d k).buflen.toNat := by
    rw [hptr]
    exact h.length_eq ▸ hk
  have hread : (s.scannedTo d k).buf.read (s.scannedTo d k).ptr.toNat = some b := by
    rw [hptr]
    exact (h.bytes k hk).trans hb
  rw [step_of_scan_byte (h.ownStep_scannedTo k) (s.scannedTo_scans d k) hlt hread,
    h.consume_scannedTo]

/-- The loop invariant of R113: k steps bring the scan to byte k, unless a pair ends before it. -/
theorem State.ScanStart.run_to (h : s.ScanStart d) {k : Nat} (hk : k ≤ d.length)
    (hpair : ∀ j, j + 1 < k → ¬pairAt d j = true) :
    Host.Core.run Sys2Proof.core k s = .next (s.scannedTo d k) := by
  induction k with
  | zero => rw [State.scannedTo_zero h.st h.ptr]; rfl
  | succ k ih =>
    have hb : d[k]? = some d[k] := List.getElem?_eq_getElem hk
    have hrun := ih (by omega) fun j hj => hpair j (by omega)
    have hstep := h.step_scannedTo hb
    rw [State.scannedTo_scanByte hb fun j hj => hpair j (by omega)] at hstep
    exact run_succ_of_run (M := Sys2Proof.core) hrun hstep

/-- Without a pair the scan goes to the end of the buffer and raises FrameNotFound there. -/
theorem State.ScanStart.run_of_none (h : s.ScanStart d) (hnone : firstPair d = none) :
    Host.Core.run Sys2Proof.core (d.length + 1) s =
      .next ((s.scannedTo d d.length).raise .frameNotFound) := by
  have hrun := h.run_to le_rfl fun j _ => firstPair_eq_none_iff.mp hnone j
  have hend : (s.scannedTo d d.length).ptr = (s.scannedTo d d.length).buflen :=
    BitVec.eq_of_toNat_eq ((State.scannedTo_ptr h.length_eq le_rfl).trans h.length_eq)
  have hstep := step_of_scan_end (h.ownStep_scannedTo _) (s.scannedTo_scans d _) hend
  rw [h.consume_scannedTo] at hstep
  exact run_succ_of_run (M := Sys2Proof.core) hrun hstep

/-- With the first pair at i it ends in ID.MATCH, at the second byte of the pair. -/
theorem State.ScanStart.run_of_some (h : s.ScanStart d) {i : Nat} (hsome : firstPair d = some i) :
    Host.Core.run Sys2Proof.core (i + 2) s = .next (matchFound (s.scannedTo d (i + 1))) := by
  obtain ⟨hpair, hfirst⟩ := firstPair_eq_some_iff.mp hsome
  obtain ⟨h7D, h01⟩ := pairAt_iff.mp hpair
  have hrun := h.run_to (pairAt_lt hpair).le fun j hj => hfirst j (by omega)
  have hident : (s.scannedTo d (i + 1)).st = .ident :=
    State.scannedTo_st_ident.mpr ⟨Nat.succ_pos i, h7D⟩
  have hstep := h.step_scannedTo h01
  rw [State.scanByte_of_match hident] at hstep
  exact run_succ_of_run (M := Sys2Proof.core) hrun hstep

/-- Where ID.MATCH finds the first pair, PTR is at its second byte. -/
theorem State.ScanStart.ptr_at_match (h : s.ScanStart d) {i : Nat} (hsome : firstPair d = some i) :
    (s.scannedTo d (i + 1)).ptr.toNat = i + 1 :=
  State.scannedTo_ptr h.length_eq (pairAt_lt (firstPair_eq_some_iff.mp hsome).1).le

end

/-- Settles O45: the scan runs to the first pair or to the end, and ID.MATCH makes the bounds check
that SYNC makes. -/
theorem scanStepsComputeSync : Obligations.ScanStepsComputeSync := by
  intro s d hst hp hin hlen hbuf
  have h : s.ScanStart d := ⟨hst, hp, hin, hlen, hbuf⟩
  refine ⟨fun hsync => ?notFound, fun hsync => ?truncated, fun i hsync => ?candidate⟩
  case notFound => exact ⟨_, h.run_of_none (firstPair_of_frameNotFound hsync), rfl, rfl⟩
  case truncated =>
    obtain ⟨i, hsome, hlong⟩ := firstPair_of_streamTruncated hsync
    have hptr := h.ptr_at_match hsome
    have hm := matchFound_of_truncated (s := s.scannedTo d (i + 1)) (by omega)
      (by rw [hptr]; exact hlen ▸ hlong)
    exact ⟨i, _, hsome, h.run_of_some hsome, by rw [hm], by rw [hm]⟩
  case candidate =>
    obtain ⟨hsome, hfits⟩ := firstPair_of_candidateFrame hsync
    have hptr := h.ptr_at_match hsome
    have hpos : 1 ≤ (s.scannedTo d (i + 1)).ptr.toNat := by omega
    have hlt : (s.scannedTo d (i + 1)).ptr.toNat < s.buflen.toNat := by omega
    have hm := matchFound_of_fits hpos (by rw [hptr]; exact hlen ▸ hfits)
    refine ⟨_, h.run_of_some hsome, by rw [hm], ?_, ?_, ?_⟩
    · rw [matchFound_off, toNat_ptr_pred hpos, hptr, Nat.add_sub_cancel]
    · rw [matchFound_ptr, toNat_ptr_succ hlt, hptr]
    · rw [hm]
      exact ⟨rfl, rfl, rfl, rfl, rfl, rfl⟩

end Sys2Proof.Machine
end

section
/-! PROOF. No step stops under the invariants (`10_state.md` rule R35, `40_synchronizer.md` rule
R112): what a port presents always has an effect, and the invariants give the sequencer every byte
that it reads. -/

namespace Sys2Proof.Machine

/-! ### What a port presents -/

theorem exec_start_goes_on (nf : BitVec 8) (s : State) : ∃ t, exec (.start nf) s = .next t := by
  simp only [exec, execStart]
  split
  · split
    · exact ⟨_, rfl⟩
    · exact ⟨_, rfl⟩
  · exact ⟨_, rfl⟩

/-- Every command word is an operation with an effect (R83). -/
theorem exec_command_goes_on (w : BitVec 16) (s : State) :
    ∃ t, exec (decodeCommand w) s = .next t := by
  unfold decodeCommand
  split
  · exact ⟨_, rfl⟩
  · exact exec_start_goes_on _ s
  · exact ⟨_, rfl⟩
  · exact ⟨_, rfl⟩

theorem exec_deliver_goes_on {d : List Byte} (hd : d.length ≤ 255) (s : State) :
    ∃ t, exec (.deliver d) s = .next t := by
  simp only [exec, execDeliver, if_pos (deliveryFits_iff.mpr hd)]
  split
  · split
    · exact ⟨_, rfl⟩
    · split
      · exact ⟨_, rfl⟩
      · exact ⟨_, rfl⟩
  · exact ⟨_, rfl⟩

/-! ### The block's own step -/

section
variable {s : State}

/-- Below BUFLEN every byte can be read (R22). -/
theorem State.Stored.read (h : s.Stored) {j : Nat} (hj : j < s.buflen.toNat) :
    ∃ b, s.buf.read j = some b := Option.isSome_iff_exists.mp (h.buf_full j hj)

/-- PTR at most BUFLEN is all the scan asks for (R112). -/
theorem step_goes_on_of_scan (h : s.Stored) (hown : s.ownStep)
    (hst : s.st = .hunt ∨ s.st = .ident) : ∃ t, step s = .next t := by
  by_cases hp : s.ptr = s.buflen
  · exact ⟨_, step_of_scan_end hown hst hp⟩
  · have hne : s.ptr.toNat ≠ s.buflen.toNat := fun he => hp (BitVec.eq_of_toNat_eq he)
    have hlt : s.ptr.toNat < s.buflen.toNat := Nat.lt_of_le_of_ne h.ptr_le hne
    obtain ⟨b, hb⟩ := h.read hlt
    exact ⟨_, step_of_scan_byte hown hst hlt hb⟩

/-- A capture step in its range of CNT takes the byte at PTR. -/
theorem exec_capture_of_read {i : Instr} {lo hi : Nat} {rest : Byte → State → State} {b : Byte}
    (hcapture : IsCapture i) (hexec : exec i s = s.capture lo hi rest) (hst : s.st = .capt)
    (hlo : lo ≤ s.cnt.toNat) (hhi : s.cnt.toNat ≤ hi) (hlt : s.ptr.toNat < s.buflen.toNat)
    (hb : s.buf.read s.ptr.toNat = some b) : exec i s = .next (s.captureByte b) := by
  have hnext := hexec.trans (State.capture_of_read hst hlo hhi hlt hb)
  obtain ⟨_, _, -, -, heq⟩ := exec_capture_eq hcapture
  rw [heq] at hnext ⊢
  split at hnext
  · next hc => rw [if_pos hc, State.onByte_of_read hlt hb]
  · cases hnext

/-- In CAPT, for every CNT from 2 to 87, the block's own step captures one byte. -/
theorem step_of_capture_byte {b : Byte} (hown : s.ownStep) (hst : s.st = .capt)
    (hlo : 2 ≤ s.cnt.toNat) (hhi : s.cnt.toNat ≤ 87) (hlt : s.ptr.toNat < s.buflen.toNat)
    (hb : s.buf.read s.ptr.toNat = some b) : step s = .next (s.consume.captureByte b) := by
  have run : ∀ {i lo hi rest}, decode (.capt s.cnt) = .ok i → IsCapture i →
      exec i s.consume = s.consume.capture lo hi rest → lo ≤ s.cnt.toNat → s.cnt.toNat ≤ hi →
      step s = .next (s.consume.captureByte b) := fun hdec hcapture hexec hlo hhi =>
    (step_of_selects (hown.selects (selectStep_capt hst) hdec)).trans
      (exec_capture_of_read (s := s.consume) hcapture hexec hst hlo hhi hlt hb)
  obtain hc | hc | ⟨hclo, hchi⟩ | hc | hc : s.cnt.toNat = 2 ∨ s.cnt.toNat = 3 ∨
    (4 ≤ s.cnt.toNat ∧ s.cnt.toNat ≤ 85) ∨ s.cnt.toNat = 86 ∨ s.cnt.toNat = 87 := by omega
  · exact run (decode_capt_at hc rfl) (by simp [IsCapture]) (execCaptLenlo_eq _) hc.ge hc.le
  · exact run (decode_capt_at hc rfl) (by simp [IsCapture]) (execCaptLenhi_eq _) hc.ge hc.le
  · exact run (decode_capt_body hclo hchi) (by simp [IsCapture]) (execCaptBody_eq _) hclo hchi
  · exact run (decode_capt_at hc rfl) (by simp [IsCapture]) (execCaptCklo_eq _) hc.ge hc.le
  · exact run (decode_capt_at hc rfl) (by simp [IsCapture]) (execCaptCkhi_eq _) hc.ge hc.le

/-- While a frame is captured its next byte lies below BUFLEN (R35 items 3 and 4). -/
theorem State.Captured.ptr_lt (h : s.Captured) (hcnt : s.cnt.toNat ≤ 87) :
    s.ptr.toNat < s.buflen.toNat := by
  have hptr := h.ptr_eq
  have hfits : s.off.toNat + 88 ≤ s.buflen.toNat := h.fits
  omega

theorem exec_check_goes_on (hst : s.st = .check) : ∃ t, exec .check s = .next t := by
  simp only [exec, execCheck, if_pos hst]
  split
  · exact ⟨_, rfl⟩
  · exact ⟨_, rfl⟩

/-- A whole captured frame is a copy of 88 bytes that BUF holds. -/
theorem State.Captured.frame_full (h : s.Captured) (hs : s.Stored) (hcnt : s.cnt.toNat = 88) :
    ∀ j < 88, (s.frame.read j).isSome = true := by
  intro j hj
  have hfits : s.off.toNat + 88 ≤ s.buflen.toNat := h.fits
  rw [h.copy j (hcnt ▸ hj)]
  exact hs.buf_full _ (by omega)

/-- On such a frame DECODE extracts every field (R144). -/
theorem exec_decode_goes_on (hst : s.st = .decode)
    (hfull : ∀ j < 88, (s.frame.read j).isSome = true) : ∃ t, exec .decode s = .next t := by
  obtain ⟨e, he⟩ := Option.isSome_iff_exists.mp (extractAll_isSome hfull)
  simp only [exec, execDecode, if_pos hst, he]
  exact ⟨_, rfl⟩

/-- With no host acting the step that R87 selects goes on, or the block waits. -/
theorem State.Inv.ownStep_goes_on (hs : s.Inv) (hown : s.ownStep) : ∃ t, step s = .next t := by
  obtain ⟨hstored, -⟩ := inv_iff.mp hs
  cases hst : s.st
  case idle => exact ⟨_, statesWithoutAStepOnlyWait s hown (.inl hst)⟩
  case waitrx => exact ⟨_, statesWithoutAStepOnlyWait s hown (.inr (.inl hst))⟩
  case done => exact ⟨_, statesWithoutAStepOnlyWait s hown (.inr (.inr hst))⟩
  case hunt => exact step_goes_on_of_scan hstored hown (.inl hst)
  case ident => exact step_goes_on_of_scan hstored hown (.inr hst)
  case capt =>
    obtain ⟨hlo, hhi, hcap⟩ := hs.capt hst
    have hlt := hcap.ptr_lt hhi
    obtain ⟨b, hb⟩ := hstored.read hlt
    exact ⟨_, step_of_capture_byte hown hst hlo hhi hlt hb⟩
  case check =>
    rw [step_of_selects (hown.selects (selectStep_check hst) rfl)]
    exact exec_check_goes_on hst
  case decode =>
    obtain ⟨hcnt, hcap⟩ := hs.full (.inr hst)
    rw [step_of_selects (hown.selects (selectStep_decode hst) rfl)]
    exact exec_decode_goes_on hst (hcap.frame_full hstored hcnt)

end

/-- Settles O50: by the oldest input. The ports present host operations, which always have an
effect; where no host acts it is the block's own step. -/
theorem noStepStopsUnderTheInvariants : Obligations.NoStepStopsUnderTheInvariants := by
  intro s hs
  cases hin : s.inputs with
  | nil => exact hs.ownStep_goes_on (.inl hin)
  | cons x rest =>
    have hport : x.fromPort = true := hs.ports x (hin ▸ List.mem_cons_self)
    cases x with
    | tick => exact hs.ownStep_goes_on (.inr ⟨rest, hin⟩)
    | command w =>
      have hfetch : s.fetch = .signal (.command w) := by rw [State.fetch, hin]
      rw [step_of_fetch hfetch rfl]
      exact exec_command_goes_on w _
    | delivery d =>
      have hfits : d.length ≤ 255 := deliveryFits_iff.mp hport
      have hfetch : s.fetch = .signal (.delivery d) := by rw [State.fetch, hin]
      rw [step_of_fetch hfetch (decode_delivery hfits)]
      exact exec_deliver_goes_on hfits _
    | resetLine =>
      have hfetch : s.fetch = .signal .resetLine := by rw [State.fetch, hin]
      exact ⟨_, step_of_fetch hfetch rfl⟩
    | stage k => cases hport
    | header pair i => cases hport
    | call c => cases hport

end Sys2Proof.Machine
end

section
/-! PROOF. The checksum as a number (`41_checksum.md` rules R120, R121, R128, R130): accumulated byte
by byte it is the exact sum of the bytes, which never wraps, and VALIDATE compares it. -/

namespace Sys2Proof.Machine

/-! ### Sums of bytes -/

@[simp] theorem byteSum_nil : byteSum [] = 0 := rfl

@[simp] theorem byteSum_cons (b : Byte) (l : List Byte) :
    byteSum (b :: l) = b.toNat + byteSum l := by simp [byteSum]

@[simp] theorem byteSum_append (l l' : List Byte) :
    byteSum (l ++ l') = byteSum l + byteSum l' := by simp [byteSum]

theorem byteSum_perm {l l' : List Byte} (h : l.Perm l') : byteSum l = byteSum l' :=
  (h.map BitVec.toNat).sum_eq

/-- Each byte adds at most 255. -/
theorem byteSum_le (l : List Byte) : byteSum l ≤ 255 * l.length := by
  induction l with
  | nil => exact Nat.le_refl 0
  | cons b l ih =>
    have := b.isLt
    rw [byteSum_cons, List.length_cons]
    omega

/-- A replaced byte changes the sum by the difference of the two. -/
theorem byteSum_set {l : List Byte} {j : Nat} {a : Byte} (ha : l[j]? = some a) (b : Byte) :
    byteSum (l.set j b) + a.toNat = byteSum l + b.toNat := by
  obtain ⟨hj, rfl⟩ := List.getElem?_eq_some_iff.mp ha
  have hl : l.take j ++ l[j] :: l.drop (j + 1) = l := by simp
  rw [List.set_eq_take_cons_drop b hj]
  conv_rhs => rw [← hl]
  simp only [byteSum_append, byteSum_cons]
  omega

/-! ### Accumulation -/

/-- Accumulating reduces modulo 65536 at every byte, which is to reduce once at the end (R121). -/
theorem foldl_accumulate_toNat (l : List Byte) (s : State) :
    (l.foldl State.accumulate s).sum.toNat = (s.sum.toNat + byteSum l) % 65536 := by
  induction l generalizing s with
  | nil => exact (Nat.mod_eq_of_lt s.sum.isLt).symm
  | cons b l ih =>
    rw [List.foldl_cons, ih, State.accumulate_toNat, byteSum_cons]
    omega

/-- Settles O42: the sum of the list decides what is accumulated, and no order changes it. -/
theorem accumulatingBytesIsTheirSumModulo65536 :
    Obligations.AccumulatingBytesIsTheirSumModulo65536 := by
  refine ⟨fun s b => ⟨s.accumulate_toNat b, rfl⟩, fun s l hzero => ?_, fun s l l' hperm => ?_⟩
  · rw [foldl_accumulate_toNat, hzero]
    exact congrArg (· % 65536) (Nat.zero_add _)
  · apply BitVec.eq_of_toNat_eq
    rw [foldl_accumulate_toNat, foldl_accumulate_toNat, byteSum_perm hperm]

/-! ### The checksum of a frame -/

/-- 86 bytes add up to no more than 86 * 255 = 0x55AA (R128). -/
theorem byteSum_take_le (f : List Byte) : byteSum (f.take 86) ≤ 0x55AA := by
  have hsum := byteSum_le (f.take 86)
  have hlen := List.length_take_le 86 f
  omega

/-- So 16 bits hold their exact sum. -/
theorem computedChecksum_toNat (f : List Byte) :
    (computedChecksum f).toNat = byteSum (f.take 86) :=
  Nat.mod_eq_of_lt (Nat.lt_of_le_of_lt (byteSum_take_le f) (by decide))

/-- The two header bytes alone add up to 0x7E. -/
theorem le_byteSum_of_header {f : List Byte} (h0 : f[0]? = some 0x7D#8)
    (h1 : f[1]? = some 0x01#8) : 0x007E ≤ byteSum (f.take 86) := by
  obtain _ | ⟨a, _ | ⟨b, f⟩⟩ := f
  · cases h0
  · cases h1
  · cases h0
    cases h1
    rw [List.take_succ_cons, List.take_succ_cons, byteSum_cons, byteSum_cons, ← Nat.add_assoc]
    exact Nat.le_add_right _ _

section
variable {f : List Byte} {lo hi : Byte}

/-- VALIDATE compares the sum of the first 86 bytes with the little-endian number after them. -/
theorem validateFn_eq (hlo : f[86]? = some lo) (hhi : f[87]? = some hi) :
    validateFn f = if byteSum (f.take 86) = lo.toNat + 256 * hi.toNat then .validatedFrame
      else .checksumMismatch := by
  have hread : transmittedChecksum f = some (zext 16 lo ||| zext 16 hi <<< 8) :=
    memRead_two (by rw [Memory.read_load, hlo]) (by rw [Memory.read_load, hhi])
  have hequal : transmittedChecksum f = some (computedChecksum f) ↔
      byteSum (f.take 86) = lo.toNat + 256 * hi.toNat := by
    rw [hread, Option.some_inj, ← BitVec.toNat_inj, or_shift_two, computedChecksum_toNat, eq_comm]
  exact if_congr hequal rfl rfl

theorem validateFn_validated_iff (hlo : f[86]? = some lo) (hhi : f[87]? = some hi) :
    validateFn f = .validatedFrame ↔ byteSum (f.take 86) = lo.toNat + 256 * hi.toNat := by
  simp [validateFn_eq hlo hhi]

theorem validateFn_mismatch_iff (hlo : f[86]? = some lo) (hhi : f[87]? = some hi) :
    validateFn f = .checksumMismatch ↔ byteSum (f.take 86) ≠ lo.toNat + 256 * hi.toNat := by
  simp [validateFn_eq hlo hhi]

end

/-- Settles O39: reducing modulo 65536 leaves a sum of 86 bytes as it is. -/
theorem validateComparesTheSums : Obligations.ValidateComparesTheSums := by
  intro s f lo hi hlen hlo hhi
  have hmod : byteSum (f.take 86) % 65536 = byteSum (f.take 86) := by
    have := byteSum_take_le f
    omega
  change _ = Host.Outcome.next (s.emit (.validated
    (if byteSum (f.take 86) % 65536 = lo.toNat + 256 * hi.toNat then _ else _)))
  rw [hmod, ← validateFn_eq hlo hhi]
  exact if_pos (frameFits_iff.mpr hlen)

/-- Settles O43: the computed checksum is an exact sum of 86 bytes, and a validated frame transmits
the same number. -/
theorem checksumNeverWraps : Obligations.ChecksumNeverWraps := by
  intro f
  rw [computedChecksum_toNat]
  refine ⟨rfl, byteSum_take_le f, fun lo hi hlo hhi hvalid => ?_, le_byteSum_of_header⟩
  exact (validateFn_validated_iff hlo hhi).mp hvalid ▸ byteSum_take_le f

/-! ### Errors that are detected -/

/-- A validated frame with one summed byte replaced by another is no longer validated (R130). -/
theorem validateFn_set_summed {f : List Byte} {j : Nat} {a b : Byte} (hlen : f.length = 88)
    (hvalid : validateFn f = .validatedFrame) (hj : j < 86) (ha : f[j]? = some a) (hne : b ≠ a) :
    validateFn (f.set j b) = .checksumMismatch := by
  have hlo : f[86]? = some f[86] := List.getElem?_eq_getElem (by omega)
  have hhi : f[87]? = some f[87] := List.getElem?_eq_getElem (by omega)
  have hsum := (validateFn_validated_iff hlo hhi).mp hvalid
  have hchange : byteSum ((f.set j b).take 86) + a.toNat = byteSum (f.take 86) + b.toNat := by
    rw [List.take_set]
    exact byteSum_set (by rw [List.getElem?_take_of_lt hj, ha]) b
  have hdiff : b.toNat ≠ a.toNat := mt BitVec.eq_of_toNat_eq hne
  refine (validateFn_mismatch_iff ((List.getElem?_set_ne (by omega)).trans hlo)
    ((List.getElem?_set_ne (by omega)).trans hhi)).mpr ?_
  omega

/-- So is one with a checksum byte replaced by another. -/
theorem validateFn_set_checksum {f : List Byte} {j : Nat} {b : Byte} (hlen : f.length = 88)
    (hvalid : validateFn f = .validatedFrame) (hj : j = 86 ∨ j = 87) (hne : f[j]? ≠ some b) :
    validateFn (f.set j b) = .checksumMismatch := by
  have hlo : f[86]? = some f[86] := List.getElem?_eq_getElem (by omega)
  have hhi : f[87]? = some f[87] := List.getElem?_eq_getElem (by omega)
  have hsum := (validateFn_validated_iff hlo hhi).mp hvalid
  have hdiff : (f[j]'(by omega)).toNat ≠ b.toNat := mt BitVec.eq_of_toNat_eq fun he =>
    hne (he ▸ List.getElem?_eq_getElem _)
  have hnew : (f.set j b)[j]? = some b := List.getElem?_set_self (by omega)
  have hkept : (f.set j b).take 86 = f.take 86 := List.take_set_of_le (by omega)
  rcases hj with rfl | rfl
  · refine (validateFn_mismatch_iff hnew ((List.getElem?_set_ne (by omega)).trans hhi)).mpr ?_
    rw [hkept]
    omega
  · refine (validateFn_mismatch_iff ((List.getElem?_set_ne (by omega)).trans hlo) hnew).mpr ?_
    rw [hkept]
    omega

/-- A flipped bit makes another byte. -/
theorem xor_bit_ne (b : Byte) {e : Nat} (he : e < 8) : b ^^^ (1#8 <<< e) ≠ b := by
  have hbit : ∀ e < 8, 1#8 <<< e ≠ 0#8 := by decide
  exact fun h => hbit e he (by simpa using congrArg (b ^^^ ·) h)

/-- Settles O44: a flipped bit replaces a summed byte by another. -/
theorem singleBitErrorsAreDetected : Obligations.SingleBitErrorsAreDetected := by
  intro f hlen hvalid
  refine ⟨fun j e _ hj he => ?_, fun j b hj hne => validateFn_set_checksum hlen hvalid hj hne⟩
  have ha : f[j]? = some f[j] := List.getElem?_eq_getElem (by omega)
  have hset : f.modify j (fun b => b ^^^ (1#8 <<< e)) = f.set j (f[j] ^^^ (1#8 <<< e)) := by
    rw [List.modify_eq_set_getElem?, ha]
    rfl
  rw [hset]
  exact validateFn_set_summed hlen hvalid (by omega) ha (xor_bit_ne _ he)

end Sys2Proof.Machine
end

section
/-! PROOF. The capture steps and CHECK as operations (`41_checksum.md` rules R122 to R127). -/

namespace Sys2Proof.Machine

/-! ### What a capture step writes -/

/-- `w[7:0] <- b` keeps the high byte under its mask (R122, R125). -/
theorem withLow_eq_or (w : BitVec 16) (b : Byte) :
    withLow w b = (w &&& 0xFF00#16) ||| zext 16 b := by
  have hmask : ∀ i < 16, (0xFF00#16).getLsbD i = decide (8 ≤ i) := by decide
  apply BitVec.eq_of_getLsbD_eq
  intro i hi
  rw [withLow, BitVec.getLsbD_append, BitVec.getLsbD_or, BitVec.getLsbD_and, hmask i hi,
    BitVec.getLsbD_setWidth, BitVec.getLsbD_extractLsb']
  by_cases h : i < 8
  · simp [h, hi]
  · have hle : 8 ≤ i := Nat.le_of_not_lt h
    have hsub : i - 8 < 8 := by omega
    simp [h, hle, hsub]

/-- `w[15:8] <- b` keeps the low byte under its mask (R123, R126). -/
theorem withHigh_eq_or (w : BitVec 16) (b : Byte) :
    withHigh w b = (w &&& 0x00FF#16) ||| zext 16 b <<< 8 := by
  have hmask : ∀ i < 16, (0x00FF#16).getLsbD i = decide (i < 8) := by decide
  apply BitVec.eq_of_getLsbD_eq
  intro i hi
  rw [withHigh, BitVec.getLsbD_append, BitVec.getLsbD_or, BitVec.getLsbD_and, hmask i hi,
    BitVec.getLsbD_extractLsb']
  by_cases h : i < 8
  · simp [h, hi]
  · simp [h, hi]

theorem cnt_succ_eq {cnt : BitVec 7} {n : Nat} (h : cnt.toNat = n) :
    cnt + 1#7 = BitVec.ofNat 7 (n + 1) := by
  rw [← h, BitVec.ofNat_add, BitVec.ofNat_toNat, BitVec.setWidth_eq]

/-- The cell at CNT is written and no other. -/
theorem read_write_cnt {m : Memory} {a n : Nat} (h : a = n) (b : Byte) :
    (m.write a b).read n = some b ∧ ∀ j, j ≠ n → (m.write a b).read j = m.read j := by
  subst h
  exact ⟨Memory.read_write_same m a b, fun j hj => Memory.read_write_other m a j b hj⟩

/-! ### The operations -/

/-- Settles O25: LEN takes the byte in its half, and SUM accumulates it. -/
theorem captureOfTheDeclaredLength : Obligations.CaptureOfTheDeclaredLength := by
  intro s b hst hlt hb
  refine ⟨fun hcnt => ?lenlo, fun hcnt => ?lenhi⟩
  case lenlo =>
    obtain ⟨hcell, hothers⟩ := read_write_cnt (m := s.frame) hcnt b
    exact ⟨_, (execCaptLenlo_eq s).trans (State.capture_of_read hst hcnt.ge hcnt.le hlt hb),
      withLow_eq_or _ b, State.accumulate_toNat _ b, rfl, cnt_succ_eq hcnt, hcell, hothers, rfl⟩
  case lenhi =>
    obtain ⟨hcell, hothers⟩ := read_write_cnt (m := s.frame) hcnt b
    exact ⟨_, (execCaptLenhi_eq s).trans (State.capture_of_read hst hcnt.ge hcnt.le hlt hb),
      withHigh_eq_or _ b, State.accumulate_toNat _ b, rfl, cnt_succ_eq hcnt, hcell, hothers, rfl⟩

/-- Settles O26: only SUM takes the byte beside the frame. -/
theorem captureOfTheBody : Obligations.CaptureOfTheBody := by
  intro s b hst hlt hb hlo hhi
  obtain ⟨hcell, hothers⟩ := read_write_cnt (m := s.frame) rfl b
  exact ⟨_, (execCaptBody_eq s).trans (State.capture_of_read hst hlo hhi hlt hb),
    State.accumulate_toNat _ b, rfl, toNat_cnt_succ (by omega), hcell, hothers, rfl⟩

/-- Settles O27: CKRX takes the byte in its half, and SUM does not. -/
theorem captureOfTheChecksum : Obligations.CaptureOfTheChecksum := by
  intro s b hst hlt hb
  refine ⟨fun hcnt => ?cklo, fun hcnt => ?ckhi⟩
  case cklo =>
    obtain ⟨hcell, hothers⟩ := read_write_cnt (m := s.frame) hcnt b
    exact ⟨_, (execCaptCklo_eq s).trans (State.capture_of_read hst hcnt.ge hcnt.le hlt hb),
      withLow_eq_or _ b, rfl, cnt_succ_eq hcnt, hcell, hothers, rfl⟩
  case ckhi =>
    obtain ⟨hcell, hothers⟩ := read_write_cnt (m := s.frame) hcnt b
    exact ⟨_, (execCaptCkhi_eq s).trans (State.capture_of_read hst hcnt.ge hcnt.le hlt hb),
      withHigh_eq_or _ b, rfl, cnt_succ_eq hcnt, hcell, hothers, rfl⟩

theorem exec_check_of_eq {s : State} (hst : s.st = .check) (hsum : s.sum = s.ckrx) :
    exec .check s = .next { s with st := .decode } := (if_pos hst).trans (if_pos hsum)

theorem exec_check_of_ne {s : State} (hst : s.st = .check) (hsum : s.sum ≠ s.ckrx) :
    exec .check s = .next (s.raise .checksumMismatch) := (if_pos hst).trans (if_neg hsum)

/-- Settles O28: one comparison of the two registers. -/
theorem checkComparesTheSums : Obligations.CheckComparesTheSums := fun _ hst =>
  ⟨exec_check_of_eq hst, exec_check_of_ne hst⟩

end Sys2Proof.Machine
end

section
/-! PROOF. The capture computes VALIDATE (`41_checksum.md` rule R129): 86 capture steps keep the frame
a copy of the buffer, with SUM and CKRX in step, until CHECK compares the two numbers that VALIDATE
compares. -/

namespace Sys2Proof.Machine

/-! ### The capture steps -/

/-- The part of the state that no capture step writes (R122 to R126). -/
def State.outsideCapture (s : State) : State :=
  { s with
    st := .capt, ptr := 0#8, cnt := 0#7, frame := [], len := 0#16, sum := 0#16, ckrx := 0#16 }

theorem State.captureByte_outsideCapture (s : State) (b : Byte) :
    (s.captureByte b).outsideCapture = s.outsideCapture := rfl

theorem State.eq_of_outsideCapture {s t : State} (h : t.outsideCapture = s.outsideCapture) :
    t.buf = s.buf ∧ t.off = s.off ∧ t.ens = s.ens ∧ t.status = s.status ∧ t.inputs = s.inputs := by
  simp only [State.outsideCapture, State.mk.injEq, true_and] at h
  obtain ⟨-, hbuf, -, hoff, hens, hstatus, hinputs, -⟩ := h
  exact ⟨hbuf, hoff, hens, hstatus, hinputs⟩

/-- A frame is being captured from a buffer of readable bytes, and no host acts. -/
structure State.Capturing (s : State) : Prop where
  st : s.st = .capt
  inputs : s.inputs = []
  cnt_ge : 2 ≤ s.cnt.toNat
  captured : s.Captured
  buf_full : ∀ j < s.buflen.toNat, (s.buf.read j).isSome = true

/-- Such a state takes the next frame byte. -/
theorem State.Capturing.step {s : State} (h : s.Capturing) (hcnt : s.cnt.toNat ≤ 87) :
    ∃ b, step s = .next (s.captureByte b) ∧ (s.captureByte b).Captured ∧
      (s.captureByte b).cnt.toNat = s.cnt.toNat + 1 := by
  have hlt := h.captured.ptr_lt hcnt
  obtain ⟨b, hb⟩ := Option.isSome_iff_exists.mp (h.buf_full _ hlt)
  have hstep := step_of_capture_byte (.inl h.inputs) h.st h.cnt_ge hcnt hlt hb
  rw [consume_of_no_inputs h.inputs] at hstep
  exact ⟨b, hstep, h.captured.captureByte h.cnt_ge hcnt hlt hb, toNat_cnt_succ hcnt⟩

/-- As many steps as frame bytes are missing capture them all and enter CHECK. -/
theorem State.Capturing.run {s : State} {n : Nat} (h : s.Capturing)
    (hcnt : s.cnt.toNat + (n + 1) = 88) :
    ∃ t, Host.Core.run Sys2Proof.core (n + 1) s = .next t ∧ t.st = .check ∧ t.cnt.toNat = 88 ∧
      t.Captured ∧ t.outsideCapture = s.outsideCapture := by
  induction n generalizing s with
  | zero =>
    obtain ⟨b, hstep, hcap, hnext⟩ := h.step (by omega)
    have hst : (s.captureByte b).st = .check := if_pos (by omega)
    exact ⟨_, (run_succ_next (M := Sys2Proof.core)).mpr ⟨_, hstep, rfl⟩, hst, hnext.trans hcnt,
      hcap, s.captureByte_outsideCapture b⟩
  | succ n ih =>
    obtain ⟨b, hstep, hcap, hnext⟩ := h.step (by omega)
    have hst : (s.captureByte b).st = .capt := if_neg (by omega)
    have hge : 2 ≤ s.cnt.toNat := h.cnt_ge
    obtain ⟨t, hrun, htst, htcnt, htcap, hout⟩ := ih (s := s.captureByte b)
      { h with st := hst, cnt_ge := by omega, captured := hcap } (by omega)
    exact ⟨t, (run_succ_next (M := Sys2Proof.core)).mpr ⟨_, hstep, hrun⟩, htst, htcnt, htcap,
      hout.trans (s.captureByte_outsideCapture b)⟩

/-! ### The comparison -/

/-- A frame that agrees with a sequence below cell n holds its first n bytes. -/
theorem frameBytes_eq_take {frame : Memory} {f : List Byte} {n : Nat}
    (h : ∀ j < n, frame.read j = f[j]?) : frameBytes frame n = f.take n := by
  induction n with
  | zero => rfl
  | succ n ih =>
    rw [List.take_add_one, ← h n (Nat.lt_succ_self n), ← ih fun j hj => h j (by omega)]
    cases hb : frame.read n <;> simp [frameBytes, List.range_succ, hb]

/-- CHECK on a whole captured frame decides as VALIDATE does on its bytes (R120, R127). -/
theorem State.Captured.validateFn_eq {t : State} {f : List Byte} (h : t.Captured)
    (hcnt : t.cnt.toNat = 88) (hcopy : ∀ j < 88, t.frame.read j = f[j]?) :
    validateFn f = if t.sum = t.ckrx then .validatedFrame else .checksumMismatch := by
  have hlo : f[86]? = some (t.ckrx.extractLsb' 0 8) :=
    (hcopy 86 (by decide)).symm.trans (h.ckrx_low (by omega))
  have hhi : f[87]? = some (t.ckrx.extractLsb' 8 8) :=
    (hcopy 87 (by decide)).symm.trans (h.ckrx_high (by omega))
  have hsum : t.sum = computedChecksum f := by
    have hmin : min t.cnt.toNat Config.sumLen = 86 := by rw [hcnt]; rfl
    rw [h.sum_eq, hmin, frameSum, frameBytes_eq_take fun j hj => hcopy j (by omega)]
    rfl
  have hckrx : (t.ckrx.extractLsb' 0 8).toNat + 256 * (t.ckrx.extractLsb' 8 8).toNat =
      t.ckrx.toNat := by
    rw [lowByte_toNat, highByte_toNat]
    omega
  rw [Machine.validateFn_eq hlo hhi, hckrx, ← computedChecksum_toNat, ← hsum]
  exact if_congr BitVec.toNat_inj rfl rfl

/-- Its step to DECODE or to DONE (R127). -/
theorem step_of_check {t : State} (hst : t.st = .check) (hin : t.inputs = []) :
    step t = .next (if t.sum = t.ckrx then { t with st := .decode }
      else t.raise .checksumMismatch) := by
  have hown : t.ownStep := .inl hin
  rw [step_of_selects (hown.selects (selectStep_check hst) rfl), consume_of_no_inputs hin]
  split
  · next hsum => exact exec_check_of_eq hst hsum
  · next hsum => exact exec_check_of_ne hst hsum

/-! ### The capture of one frame -/

theorem getElem?_frameAt (d : List Byte) (i : Nat) {j : Nat} (hj : j < 88) :
    (frameAt d i)[j]? = d[i + j]? := by
  rw [frameAt, List.getElem?_take_of_lt hj, List.getElem?_drop]

/-- What ID.MATCH leaves at OFF, where BUF holds `d`: the two marker bytes are captured (R109). -/
structure State.CaptureStart (s : State) (d : List Byte) : Prop where
  st : s.st = .capt
  cnt : s.cnt = 2#7
  sum : s.sum = 0x007E#16
  ptr : s.ptr.toNat = s.off.toNat + 2
  inputs : s.inputs = []
  length_eq : d.length = s.buflen.toNat
  fits : s.off.toNat + 88 ≤ d.length
  bytes : ∀ j < d.length, s.buf.read j = d[j]?
  pair_id : d[s.off.toNat]? = some 0x7D#8
  pair_fmt : d[s.off.toNat + 1]? = some 0x01#8
  frame_id : s.frame.read 0 = some 0x7D#8
  frame_fmt : s.frame.read 1 = some 0x01#8

section
variable {s : State} {d : List Byte}

/-- The invariant of the capture holds of the two marker bytes. -/
theorem State.CaptureStart.captured (h : s.CaptureStart d) : s.Captured := by
  have hcnt : s.cnt.toNat = 2 := congrArg BitVec.toNat h.cnt
  have hfits := h.fits
  exact
    { ptr_eq := by rw [h.ptr, hcnt]
      fits := h.length_eq ▸ h.fits
      copy := fun j hj => by
        rw [h.bytes _ (by omega)]
        obtain rfl | rfl : j = 0 ∨ j = 1 := by omega
        · exact h.frame_id.trans h.pair_id.symm
        · exact h.frame_fmt.trans h.pair_fmt.symm
      id_byte := h.frame_id
      fmt_byte := h.frame_fmt
      sum_eq := by
        have hmin : min s.cnt.toNat Config.sumLen = 2 := by rw [hcnt]; rfl
        rw [h.sum, hmin, frameSum_succ h.frame_fmt, frameSum_succ h.frame_id]
        rfl
      len_low := fun hc => by omega
      len_high := fun hc => by omega
      ckrx_low := fun hc => by omega
      ckrx_high := fun hc => by omega }

theorem State.CaptureStart.capturing (h : s.CaptureStart d) : s.Capturing where
  st := h.st
  inputs := h.inputs
  cnt_ge := by rw [h.cnt]; decide
  captured := h.captured
  buf_full j hj := by
    have hj' : j < d.length := h.length_eq ▸ hj
    rw [h.bytes j hj', List.getElem?_eq_getElem hj']
    rfl

/-- A whole frame captured from `s` on is the frame of `d` at OFF. -/
theorem State.CaptureStart.frame_read (h : s.CaptureStart d) {t : State} (ht : t.Captured)
    (hcnt : t.cnt.toNat = 88) (hout : t.outsideCapture = s.outsideCapture) :
    ∀ j < 88, t.frame.read j = d[s.off.toNat + j]? := by
  intro j hj
  obtain ⟨hbuf, hoff, -⟩ := State.eq_of_outsideCapture hout
  have hfits := h.fits
  rw [ht.copy j (hcnt ▸ hj), hbuf, hoff, h.bytes _ (by omega)]

end

/-- Settles O46: the captured frame is that of the buffer, and CHECK decides on it as VALIDATE does. -/
theorem captureStepsComputeValidate : Obligations.CaptureStepsComputeValidate := by
  intro s d hst hcnt hsum hptr hin hlen hfits hbuf h7D h01 hf7D hf01
  have h : s.CaptureStart d :=
    ⟨hst, hcnt, hsum, hptr, hin, hlen, hfits, hbuf, h7D, h01, hf7D, hf01⟩
  obtain ⟨t, hrun, htst, htcnt, hcap, hout⟩ := h.capturing.run (n := 85) (by rw [hcnt]; rfl)
  have hframe := h.frame_read hcap htcnt hout
  obtain ⟨-, -, hens, hstatus, hin'⟩ := State.eq_of_outsideCapture hout
  have hdecide : validateFn (frameAt d s.off.toNat) =
      if t.sum = t.ckrx then .validatedFrame else .checksumMismatch :=
    hcap.validateFn_eq htcnt fun j hj => (hframe j hj).trans (getElem?_frameAt d _ hj).symm
  have hlast := run_succ_of_run (M := Sys2Proof.core) hrun (step_of_check htst (hin'.trans hin))
  rw [hdecide]
  by_cases heq : t.sum = t.ckrx
  · rw [if_pos heq] at hlast ⊢
    exact ⟨_, hlast, hframe, fun _ => ⟨rfl, hstatus⟩, nofun, hens⟩
  · rw [if_neg heq] at hlast ⊢
    exact ⟨_, hlast, hframe, nofun, fun _ => ⟨rfl, rfl⟩, hens⟩

end Sys2Proof.Machine
end

section
/-! PROOF. The numbers the fields hold, as the read port shows them (`42_field_decoder.md` rules
R142, R186, R187). -/

namespace Sys2Proof.Machine

/-! ### The value and its extension to 32 bits -/

theorem fieldWidth_le (f : Field) : fieldWidth f ≤ 32 :=
  (by decide : ∀ f ∈ allFields, fieldWidth f ≤ 32) f (mem_allFields f)

theorem fieldWidth_of_s16 {f : Field} : fieldType f = .s16 → fieldWidth f = 16 :=
  (by decide : ∀ f ∈ allFields, fieldType f = .s16 → fieldWidth f = 16) f (mem_allFields f)

/-- ext_k by the type of the field (R142). -/
theorem extendField_eq (f : Field) (v : BitVec (fieldWidth f)) :
    extendField f v = if fieldType f = .s16 then sext 32 v else zext 32 v := by
  unfold extendField
  cases fieldType f <;> rfl

/-- The value by the type of the field (R142). -/
theorem fieldValue_eq (f : Field) (v : BitVec (fieldWidth f)) :
    fieldValue f v = if fieldType f = .s16 then v.toInt else (v.toNat : Int) := by
  unfold fieldValue
  cases fieldType f <;> rfl

/-- signed_16 of R142 is the two's complement number of a 16-bit pattern. -/
theorem toInt_eq_signed16 {w : Nat} (hw : w = 16) (v : BitVec w) :
    v.toInt = if v.toNat < 0x8000 then (v.toNat : Int) else (v.toNat : Int) - 65536 := by
  subst hw
  rw [BitVec.toInt_eq_toNat_cond]
  split <;> split <;> omega

/-- Zero extension of a narrower pattern leaves the sign bit of FDATA 0. -/
theorem toInt_zext32_of_lt {w : Nat} (hw : w < 32) (v : BitVec w) :
    (zext 32 v).toInt = (v.toNat : Int) := by
  have hnat : (zext 32 v).toNat = v.toNat := BitVec.toNat_setWidth_of_le hw.le
  have hpow : 2 ^ w ≤ 2 ^ 31 := Nat.pow_le_pow_right (by decide) (Nat.le_of_lt_succ hw)
  have hlt := v.isLt
  rw [BitVec.toInt_eq_toNat_of_lt (by omega), hnat]

/-- Settles O21: sign extension keeps the signed number, zero extension the unsigned one, and no
field is wider than the port. -/
theorem readPortShowsTheValue : Obligations.ReadPortShowsTheValue := by
  intro f v
  rw [fieldValue_eq, extendField_eq]
  refine ⟨fun hs => ?_, fun hu => if_neg hu, fun hlt => ?_, fun h32 => ?_, rfl⟩
  · rw [if_pos hs, toInt_eq_signed16 (fieldWidth_of_s16 hs)]
  · by_cases hs : fieldType f = .s16
    · rw [if_pos hs, if_pos hs, BitVec.toInt_signExtend_of_le hlt.le]
    · rw [if_neg hs, if_neg hs, toInt_zext32_of_lt hlt]
  · have hu : fieldType f ≠ .s16 := fun hs => by have := fieldWidth_of_s16 hs; omega
    rw [if_neg hu, if_neg hu, BitVec.toNat_setWidth_of_le (fieldWidth_le f)]

/-! ### RDFLD -/

theorem flagEnsValid_iff {s : State} :
    flagEnsValid s = true ↔ s.st = .done ∧ s.status = some .success := by
  simp [flagEnsValid]

theorem exec_rdfld (k : BitVec 6) (s : State) :
    exec (.rdfld k) s = .next (s.emit (.field (fieldAnswer k s))) := rfl

theorem fieldAnswer_of_valid {s : State} {k : BitVec 6} {f : Field}
    (hvalid : flagEnsValid s = true) (hsel : fieldOfSelector k = some f) :
    fieldAnswer k s = (ensGet s.ens f).map (extendField f) := by
  simp only [fieldAnswer, if_pos hvalid, hsel]

theorem fieldAnswer_of_invalid {s : State} {k : BitVec 6} (hvalid : ¬flagEnsValid s = true) :
    fieldAnswer k s = none := if_neg hvalid

theorem fieldAnswer_of_reserved {s : State} {k : BitVec 6} (hsel : fieldOfSelector k = none) :
    fieldAnswer k s = none := by
  simp only [fieldAnswer, hsel, ite_self]

/-- Settles O19: the answer is the register of the selected field, extended by its type. -/
theorem rdfldAnswersOneField : Obligations.RdfldAnswersOneField := by
  intro s k f v hst hstatus hsel hens
  rw [exec_rdfld, fieldAnswer_of_valid (flagEnsValid_iff.mpr ⟨hst, hstatus⟩) hsel, hens,
    Option.map_some, extendField_eq]
  rfl

/-- Settles O20: without a valid ensemble or without a selected field there is no answer. -/
theorem rdfldWithNothingToRead : Obligations.RdfldWithNothingToRead := by
  intro s k h
  have hnone : fieldAnswer k s = none := by
    rcases h with hinvalid | hreserved
    · exact fieldAnswer_of_invalid (mt flagEnsValid_iff.mp hinvalid)
    · exact fieldAnswer_of_reserved (fieldOfSelector_of_reserved hreserved)
  rw [exec_rdfld, hnone]
  rfl

end Sys2Proof.Machine
end

section
/-! PROOF. The field-extract stages one by one (`42_field_decoder.md` rules R141, R145 to R185). A
stage writes the pattern that its field has in the frame, and the pattern is the little-endian read
of the field's one, two or four bytes. -/

namespace Sys2Proof.Machine

/-- The stage of a field whose frame bytes hold values writes their pattern and nothing else. -/
theorem exec_stageOf_of_extract {s : State} (f : Field) {v : BitVec (fieldWidth f)}
    (h : extractField s.frame f = some v) :
    exec (stageOf f) s = .next { s with ens := ensSet s.ens f (some v) } :=
  (exec_stageOf f s).trans (runStage_next.mpr ⟨v, h, rfl⟩)

/-- The selector of a field decodes to its stage (R88). -/
theorem decode_stage_fieldNumber (f : Field) : decode (.stage (fieldNumber f)) = .ok (stageOf f) :=
  decode_stage_of_field (fieldOfSelector_fieldNumber f)

/-- Settles O30: the one-byte read is the byte itself. How a pattern reads as a number is decided by
the field's type alone, a row of the table. -/
theorem stagesOfU8Fields : Obligations.StagesOfU8Fields := by
  refine ⟨fun s b0 => ?stages, fun v => ?values, ?selectors⟩
  case stages =>
    exact
      ⟨fun h => exec_stageOf_of_extract .id (memRead_one h),
       fun h => exec_stageOf_of_extract .format (memRead_one h),
       fun h => exec_stageOf_of_extract .systemConfig (memRead_one h),
       fun h => exec_stageOf_of_extract .bottomStatus (memRead_one h),
       fun h => exec_stageOf_of_extract .refLayerStatus (memRead_one h),
       fun h => exec_stageOf_of_extract .tofpHour (memRead_one h),
       fun h => exec_stageOf_of_extract .tofpMin (memRead_one h),
       fun h => exec_stageOf_of_extract .tofpSec (memRead_one h),
       fun h => exec_stageOf_of_extract .tofpErr (memRead_one h),
       fun h => exec_stageOf_of_extract .salinity (memRead_one h)⟩
  case values => and_intros <;> rfl
  case selectors =>
    exact
      ⟨decode_stage_fieldNumber .id, decode_stage_fieldNumber .format,
       decode_stage_fieldNumber .systemConfig, decode_stage_fieldNumber .bottomStatus,
       decode_stage_fieldNumber .refLayerStatus, decode_stage_fieldNumber .tofpHour,
       decode_stage_fieldNumber .tofpMin, decode_stage_fieldNumber .tofpSec,
       decode_stage_fieldNumber .tofpErr, decode_stage_fieldNumber .salinity⟩

/-- Settles O31: the two-byte read is `lo | hi << 8`. -/
theorem stagesOfU16Fields : Obligations.StagesOfU16Fields := by
  refine ⟨fun s b0 b1 => ?stages, fun v => ?values, ?selectors⟩
  case stages =>
    exact
      ⟨fun h0 h1 => exec_stageOf_of_extract .byteCount (memRead_two h0 h1),
       fun h0 h1 => exec_stageOf_of_extract .rangeBeam1 (memRead_two h0 h1),
       fun h0 h1 => exec_stageOf_of_extract .rangeBeam2 (memRead_two h0 h1),
       fun h0 h1 => exec_stageOf_of_extract .rangeBeam3 (memRead_two h0 h1),
       fun h0 h1 => exec_stageOf_of_extract .rangeBeam4 (memRead_two h0 h1),
       fun h0 h1 => exec_stageOf_of_extract .refLayerStart (memRead_two h0 h1),
       fun h0 h1 => exec_stageOf_of_extract .refLayerEnd (memRead_two h0 h1),
       fun h0 h1 => exec_stageOf_of_extract .bitResult (memRead_two h0 h1),
       fun h0 h1 => exec_stageOf_of_extract .speedOfSound (memRead_two h0 h1),
       fun h0 h1 => exec_stageOf_of_extract .depth (memRead_two h0 h1),
       fun h0 h1 => exec_stageOf_of_extract .checksum (memRead_two h0 h1)⟩
  case values => and_intros <;> rfl
  case selectors =>
    exact
      ⟨decode_stage_fieldNumber .byteCount, decode_stage_fieldNumber .rangeBeam1,
       decode_stage_fieldNumber .rangeBeam2, decode_stage_fieldNumber .rangeBeam3,
       decode_stage_fieldNumber .rangeBeam4, decode_stage_fieldNumber .refLayerStart,
       decode_stage_fieldNumber .refLayerEnd, decode_stage_fieldNumber .bitResult,
       decode_stage_fieldNumber .speedOfSound, decode_stage_fieldNumber .depth,
       decode_stage_fieldNumber .checksum⟩

/-- Settles O32: the pattern is read as for u16, and only its type makes it a signed number. -/
theorem stagesOfS16Fields : Obligations.StagesOfS16Fields := by
  refine ⟨fun s b0 b1 => ?stages, fun v => ?values, ?selectors⟩
  case stages =>
    exact
      ⟨fun h0 h1 => exec_stageOf_of_extract .velBottomX (memRead_two h0 h1),
       fun h0 h1 => exec_stageOf_of_extract .velBottomY (memRead_two h0 h1),
       fun h0 h1 => exec_stageOf_of_extract .velBottomZ (memRead_two h0 h1),
       fun h0 h1 => exec_stageOf_of_extract .velBottomE (memRead_two h0 h1),
       fun h0 h1 => exec_stageOf_of_extract .velWaterMass1 (memRead_two h0 h1),
       fun h0 h1 => exec_stageOf_of_extract .velWaterMass2 (memRead_two h0 h1),
       fun h0 h1 => exec_stageOf_of_extract .velWaterMass3 (memRead_two h0 h1),
       fun h0 h1 => exec_stageOf_of_extract .velWaterMass4 (memRead_two h0 h1),
       fun h0 h1 => exec_stageOf_of_extract .temperature (memRead_two h0 h1),
       fun h0 h1 => exec_stageOf_of_extract .pitch (memRead_two h0 h1),
       fun h0 h1 => exec_stageOf_of_extract .roll (memRead_two h0 h1),
       fun h0 h1 => exec_stageOf_of_extract .heading (memRead_two h0 h1)⟩
  case values => and_intros <;> rfl
  case selectors =>
    exact
      ⟨decode_stage_fieldNumber .velBottomX, decode_stage_fieldNumber .velBottomY,
       decode_stage_fieldNumber .velBottomZ, decode_stage_fieldNumber .velBottomE,
       decode_stage_fieldNumber .velWaterMass1, decode_stage_fieldNumber .velWaterMass2,
       decode_stage_fieldNumber .velWaterMass3, decode_stage_fieldNumber .velWaterMass4,
       decode_stage_fieldNumber .temperature, decode_stage_fieldNumber .pitch,
       decode_stage_fieldNumber .roll, decode_stage_fieldNumber .heading⟩

/-- Settles O33: the four-byte read fills FDATA, so the extension leaves it as it is. -/
theorem stagesOfU32Fields : Obligations.StagesOfU32Fields := by
  refine ⟨fun s b0 b1 b2 b3 => ?stages, fun v => ?values, ?selectors⟩
  case stages =>
    exact
      ⟨fun h0 h1 h2 h3 => exec_stageOf_of_extract .dmgBottomE (memRead_four h0 h1 h2 h3),
       fun h0 h1 h2 h3 => exec_stageOf_of_extract .dmgBottomN (memRead_four h0 h1 h2 h3),
       fun h0 h1 h2 h3 => exec_stageOf_of_extract .dmgBottomUp (memRead_four h0 h1 h2 h3),
       fun h0 h1 h2 h3 => exec_stageOf_of_extract .dmgBottomErr (memRead_four h0 h1 h2 h3),
       fun h0 h1 h2 h3 => exec_stageOf_of_extract .dmgWaterE (memRead_four h0 h1 h2 h3),
       fun h0 h1 h2 h3 => exec_stageOf_of_extract .dmgWaterN (memRead_four h0 h1 h2 h3),
       fun h0 h1 h2 h3 => exec_stageOf_of_extract .dmgWaterUp (memRead_four h0 h1 h2 h3),
       fun h0 h1 h2 h3 => exec_stageOf_of_extract .dmgWaterErr (memRead_four h0 h1 h2 h3)⟩
  case values => and_intros <;> rfl
  case selectors =>
    exact
      ⟨decode_stage_fieldNumber .dmgBottomE, decode_stage_fieldNumber .dmgBottomN,
       decode_stage_fieldNumber .dmgBottomUp, decode_stage_fieldNumber .dmgBottomErr,
       decode_stage_fieldNumber .dmgWaterE, decode_stage_fieldNumber .dmgWaterN,
       decode_stage_fieldNumber .dmgWaterUp, decode_stage_fieldNumber .dmgWaterErr⟩

end Sys2Proof.Machine
end

section
/-! PROOF. The ensemble as a whole: DECODE, the 41 stages in order and DECODEFN write the same 41
patterns (`42_field_decoder.md` rules R140, R144). -/

namespace Sys2Proof.Machine

/-! ### DECODE -/

theorem exec_decode_of_extract {s : State} {e : Ensemble} (hst : s.st = .decode)
    (h : extractAll s.frame = some e) :
    exec .decode s = .next (({ s with ens := e } : State).raise .success) := by
  rw [exec, execDecode, if_pos hst, h]

/-- Each register of the extracted ensemble holds the pattern of its field. -/
theorem extractAll_field {frame : Memory} {e : Ensemble} (h : extractAll frame = some e)
    (f : Field) : ∃ v, ensGet e f = some v ∧ extractField frame f = some v := by
  obtain ⟨v, hv⟩ := Option.isSome_iff_exists.mp (extractAll_field_isSome h f)
  exact ⟨v, hv, extractAll_get h f ▸ hv⟩

/-- Settles O29: on a whole frame DECODE raises Success with the extracted ensemble. -/
theorem decodeWritesTheEnsemble : Obligations.DecodeWritesTheEnsemble := by
  intro s hst hfull
  obtain ⟨e, he⟩ := Option.isSome_iff_exists.mp (extractAll_isSome hfull)
  exact ⟨_, exec_decode_of_extract hst he, rfl, rfl, rfl, extractAll_field he, rfl⟩

/-! ### The stages one after another -/

/-- Running a list of stages threads the extraction through the ENS registers. `run` is the fold's
step, of which only what it does to a next state matters. -/
theorem foldl_stages {run : Result → Field → Result}
    (hrun : ∀ t f, run (.next t) f = exec (stageOf f) t) {fs : List Field} {s : State}
    {e : Ensemble} (h : extractInto s.frame fs s.ens = some e) :
    fs.foldl run (.next s) = .next { s with ens := e } := by
  induction fs generalizing s with
  | nil => cases h; rfl
  | cons f rest ih =>
    cases hf : extractField s.frame f with
    | none => simp only [extractInto, hf, reduceCtorEq] at h
    | some v =>
      simp only [extractInto, hf] at h
      rw [List.foldl_cons, hrun, exec_stageOf_of_extract f hf]
      exact ih (s := { s with ens := ensSet s.ens f (some v) }) h

/-- All 41 stages overwrite every register, so what ENS held before does not matter. -/
theorem extractInto_allFields {frame : Memory} {e : Ensemble} (h : extractAll frame = some e)
    (e₀ : Ensemble) : extractInto frame allFields e₀ = some e := by
  have hfields := (extractInto_isSome frame allFields Ensemble.unwritten).mp
    (Option.isSome_of_eq_some h)
  obtain ⟨e', he'⟩ := Option.isSome_iff_exists.mp
    ((extractInto_isSome frame allFields e₀).mpr hfields)
  have heq : e' = e := ensemble_ext fun f => by
    rw [extractInto_get he' f, if_pos (mem_allFields f), extractAll_get h f]
  rw [he', heq]

/-- Settles O34: the fold of the stages and DECODE extract the same ensemble. -/
theorem stagesTogetherAreDecode : Obligations.StagesTogetherAreDecode := by
  intro s hfull
  obtain ⟨e, he⟩ := Option.isSome_iff_exists.mp (extractAll_isSome hfull)
  exact ⟨e, foldl_stages (fun _ _ => rfl) (extractInto_allFields he s.ens),
    exec_decode_of_extract (s := { s with st := .decode }) rfl he⟩

/-! ### DECODEFN -/

/-- The little-endian number of a read: the i-th byte weighs 256 to the i (R62). -/
theorem memRead_toNat_eq_sum {m : Memory} {j n : Nat} {v : BitVec (8 * n)}
    (h : memRead m j n = some v) :
    v.toNat = ((List.range n).map fun i =>
      256 ^ i * ((m.read (j + i)).getD 0#8).toNat).sum := by
  induction n generalizing j with
  | zero => cases h; rfl
  | succ n ih =>
    obtain ⟨lo, hi, hlo, hhi, hv⟩ := memRead_succ_toNat h
    have hshift : ∀ i, 256 ^ (i + 1) * ((m.read (j + (i + 1))).getD 0#8).toNat =
        256 * (256 ^ i * ((m.read (j + 1 + i)).getD 0#8).toNat) := fun i => by
      rw [Nat.pow_succ', Nat.mul_assoc, Nat.add_comm i 1, Nat.add_assoc]
    simp [hv, ih hhi, List.range_succ_eq_map, Function.comp_def, hshift, List.sum_map_mul_left, hlo]

theorem exec_decodefn {l : List Byte} (h : l.length = 88) (s : State) :
    exec (.decodefn l) s = .next (s.emit (.decoded (decodeFn l))) :=
  if_pos (frameFits_iff.mpr h)

/-- DECODEFN has a value on every sequence of 88 bytes (R140). -/
theorem decodeFn_isSome {l : List Byte} (h : l.length = 88) : (decodeFn l).isSome = true :=
  extractAll_isSome fun j hj => by
    rw [Memory.read_load, List.getElem?_eq_getElem (h ▸ hj)]
    rfl

/-- Settles O40: DECODEFN reads the sequence as a frame memory, each field as its little-endian
number. -/
theorem decodefnExtractsEveryField : Obligations.DecodefnExtractsEveryField := by
  intro s l hlen
  obtain ⟨e, he⟩ := Option.isSome_iff_exists.mp (decodeFn_isSome hlen)
  refine ⟨e, by rw [exec_decodefn hlen, he]; rfl, fun f => ?_⟩
  obtain ⟨v, hget, hread⟩ := extractAll_field he f
  have hnum := memRead_toNat_eq_sum hread
  simp only [Memory.read_load] at hnum
  exact ⟨v, hget, hnum⟩

end Sys2Proof.Machine
end

section
/-! PROOF. The operations of the two hosts (`43_acquisition.md` rules R190 to R196): each with and
without an effect, and what RDSTAT answers. -/

namespace Sys2Proof.Machine

/-! ### START and NOP -/

theorem exec_start_of_busy {s : State} {nf : BitVec 8} (hst : ¬(s.st = .idle ∨ s.st = .done)) :
    exec (.start nf) s = .next s := if_neg hst

/-- Settles O12: a busy state is neither IDLE nor DONE. -/
theorem nopAndBusyStartHaveNoEffect : Obligations.NopAndBusyStartHaveNoEffect := by
  refine fun s nf => ⟨rfl, fun hbusy => exec_start_of_busy ?_⟩
  rcases hbusy with h | h | h | h | h | h <;> simp [h]

/-- Settles O13: re-initialised (R36), then `raise` (R191). -/
theorem startWithOtherFormatFails : Obligations.StartWithOtherFormatFails :=
  fun _ _ hst hnf => (if_pos hst).trans (if_neg hnf)

/-- Settles O14: re-initialised (R36), then one request (R192). -/
theorem startWithFormatFiveRequests : Obligations.StartWithFormatFiveRequests :=
  fun _ hst => ⟨_, (if_pos hst).trans (if_pos rfl), rfl, rfl, rfl⟩

/-! ### DELIVER -/

section
variable {s : State} {d : List Byte}

/-- A delivery of any length the port has is judged by ST first (R193, R194). -/
theorem exec_deliver (hd : d.length ≤ 255) : exec (.deliver d) s =
    if s.st = .waitrx then
      if d.length = 0 then .next (s.raise .portUnresponsive)
      else if d.length < 255 then .next (s.raise .streamTruncated)
      else .next { s with
        buf := Memory.load d, buflen := BitVec.ofNat 8 d.length, ptr := 0#8, st := .hunt }
    else .next s := if_pos (deliveryFits_iff.mpr hd)

theorem exec_deliver_of_unrequested (hd : d.length ≤ 255) (hst : s.st ≠ .waitrx) :
    exec (.deliver d) s = .next s := by
  rw [exec_deliver hd, if_neg hst]

theorem exec_deliver_empty (hst : s.st = .waitrx) (hd : d.length = 0) :
    exec (.deliver d) s = .next (s.raise .portUnresponsive) := by
  rw [exec_deliver (by omega), if_pos hst, if_pos hd]

theorem exec_deliver_short (hst : s.st = .waitrx) (hlo : 1 ≤ d.length) (hhi : d.length ≤ 254) :
    exec (.deliver d) s = .next (s.raise .streamTruncated) := by
  rw [exec_deliver (by omega), if_pos hst, if_neg (by omega), if_pos (by omega)]

theorem exec_deliver_full (hst : s.st = .waitrx) (hd : d.length = 255) :
    exec (.deliver d) s =
      .next { s with buf := Memory.load d, buflen := 255#8, ptr := 0#8, st := .hunt } := by
  rw [exec_deliver hd.le, if_pos hst, if_neg (by omega), if_neg (by omega), hd]

end

/-- Settles O15: the three lengths; a loaded memory reads back as the sequence. -/
theorem deliverInWaitrx : Obligations.DeliverInWaitrx := fun _ _ hst =>
  ⟨exec_deliver_empty hst, exec_deliver_short hst,
    fun hd => ⟨_, exec_deliver_full hst hd, Memory.read_load _, rfl⟩⟩

/-- Settles O16: no request is outstanding outside WAITRX. -/
theorem deliverElsewhereIsIgnored : Obligations.DeliverElsewhereIsIgnored :=
  fun _ _ hst hd => exec_deliver_of_unrequested hd hst

/-! ### RDSTAT -/

/-- The flags of R34 and STATUS, each as its condition on ST. -/
theorem statusAnswer_eq (s : State) : statusAnswer s =
    { done := s.st = .done, busy := s.st ≠ .idle ∧ s.st ≠ .done, rxreq := s.st = .waitrx,
      ensValid := s.st = .done ∧ s.status = some .success,
      status := if s.st = .done then s.status else none } := by
  simp [statusAnswer, flagDone, flagBusy, flagRxreq, flagEnsValid]

/-- What RDSTAT answers once a cycle has ended. -/
theorem statusAnswer_of_done {s : State} {o : OutcomeCode} (hst : s.st = .done)
    (hstatus : s.status = some o) : statusAnswer s =
      { done := true, busy := false, rxreq := false, ensValid := o = .success,
        status := some o } := by
  simp [statusAnswer_eq, hst, hstatus]

/-- What it answers before that. -/
theorem statusAnswer_of_not_done {s : State} (hst : s.st ≠ .done) : statusAnswer s =
    { done := false, busy := s.st ≠ .idle, rxreq := s.st = .waitrx, ensValid := false,
      status := none } := by
  simp [statusAnswer_eq, hst]

/-- Settles O18: the word of R84 by the outcome in DONE, and its upper bits by ST elsewhere. -/
theorem rdstatAnswersTheStatusWord : Obligations.RdstatAnswersTheStatusWord := by
  intro s
  refine ⟨rfl, statusAnswer_eq s, fun hst o hstatus => ?_, fun hst => ?_⟩
  · rw [statusAnswer_of_done hst hstatus]
    cases o <;> rfl
  · rw [statusAnswer_of_not_done hst]
    refine ⟨rfl, ?_⟩
    cases h : s.st with
    | done => exact absurd h hst
    | _ => rfl

end Sys2Proof.Machine
end

section
/-! PROOF. The sequencer steps where R87 does not select them (`43_acquisition.md` rule R200, log
entry 8). -/

namespace Sys2Proof.Machine

/-- A capture step is enabled in CAPT, in its range of CNT, and nowhere else. -/
theorem State.capture_of_disabled {s : State} {lo hi : Nat} {rest : Byte → State → State}
    (h : ¬(s.st = .capt ∧ lo ≤ s.cnt.toNat ∧ s.cnt.toNat ≤ hi)) :
    s.capture lo hi rest = .fault .stepNotEnabled := if_neg h

/-- A scan step stops on a byte on which its continuation does, in its own state and in any other. -/
theorem fault_of_byteStep {s : State} {i : Instr} {st : SeqState} {b : Byte} {k : Byte → Result}
    (hexec : exec i s = if s.st = st then s.onByte k else .fault .stepNotEnabled)
    (hlt : s.ptr.toNat < s.buflen.toNat) (hb : s.buf.read s.ptr.toNat = some b)
    (hk : k b = .fault .stepNotEnabled) : exec i s = .fault .stepNotEnabled := by
  rw [hexec, State.onByte_of_read hlt hb, hk, ite_self]

/-- Settles O36: the state first, then the end of the buffer, the byte at PTR, or CNT. -/
theorem unselectedStepsStop : Obligations.UnselectedStepsStop := by
  intro s b
  refine ⟨fun hst => ?hunt, fun hst => ?ident, fun hst => ?capt, fun hst => if_neg hst,
    fun hst => if_neg hst, fun hp => ?ends, fun hlt hb => ?bytes, fun hcnt => ?lenlo,
    fun hcnt => ?lenhi, fun hcnt => ?body, fun hcnt => ?cklo, fun hcnt => ?ckhi⟩
  case hunt =>
    simp only [List.forall_mem_cons, List.not_mem_nil, IsEmpty.forall_iff, implies_true, and_true]
    exact ⟨if_neg fun h => hst h.1, if_neg hst, if_neg hst⟩
  case ident =>
    simp only [List.forall_mem_cons, List.not_mem_nil, IsEmpty.forall_iff, implies_true, and_true]
    exact ⟨if_neg fun h => hst h.1, if_neg hst, if_neg hst, if_neg hst⟩
  case capt =>
    have hoff : ∀ lo hi, ¬(s.st = .capt ∧ lo ≤ s.cnt.toNat ∧ s.cnt.toNat ≤ hi) :=
      fun _ _ h => hst h.1
    intro i hi
    have hcapture : IsCapture i := by simpa [IsCapture] using hi
    obtain ⟨lo, hi', -, -, hexec⟩ := exec_capture_eq hcapture
    rw [hexec, if_neg (hoff lo hi')]
  case ends => exact ⟨if_neg fun h => hp h.2, if_neg fun h => hp h.2⟩
  case bytes =>
    exact
      ⟨fun hne => ⟨fault_of_byteStep rfl hlt hb (if_neg hne),
        fault_of_byteStep rfl hlt hb (if_neg hne)⟩,
       fun h7D => ⟨fault_of_byteStep rfl hlt hb (if_pos h7D),
        fault_of_byteStep rfl hlt hb (if_pos (.inr h7D))⟩,
       fun hne => fault_of_byteStep rfl hlt hb (if_neg hne),
       fun h01 => fault_of_byteStep rfl hlt hb (if_pos (.inl h01))⟩
  case lenlo =>
    exact (execCaptLenlo_eq s).trans (State.capture_of_disabled fun ⟨_, hlo, hhi⟩ => by omega)
  case lenhi =>
    exact (execCaptLenhi_eq s).trans (State.capture_of_disabled fun ⟨_, hlo, hhi⟩ => by omega)
  case body =>
    exact (execCaptBody_eq s).trans (State.capture_of_disabled fun ⟨_, hlo, hhi⟩ => by omega)
  case cklo =>
    exact (execCaptCklo_eq s).trans (State.capture_of_disabled fun ⟨_, hlo, hhi⟩ => by omega)
  case ckhi =>
    exact (execCaptCkhi_eq s).trans (State.capture_of_disabled fun ⟨_, hlo, hhi⟩ => by omega)

end Sys2Proof.Machine
end

section
/-! PROOF. Every scan ends (`43_acquisition.md` rule R201): each own step of a busy sequencer ends the
cycle or comes one step nearer to its end. -/

namespace Sys2Proof.Machine

/-- The states in which R87 selects a sequencer step. -/
def State.Sequencing (s : State) : Prop :=
  s.st = .hunt ∨ s.st = .ident ∨ s.st = .capt ∨ s.st = .check ∨ s.st = .decode

/-- A bound on the steps to DONE: one for each byte not yet read, and two (the end of the scan, or
CHECK and DECODE) that read none, one in DECODE. -/
def State.stepsLeft (s : State) : Nat :=
  s.buflen.toNat - s.ptr.toNat + if s.st = .decode then 1 else 2

theorem State.stepsLeft_le (s : State) : s.stepsLeft ≤ 257 := by
  have := s.buflen.isLt
  unfold State.stepsLeft
  split <;> omega

theorem State.stepsLeft_pos (s : State) : 0 < s.stepsLeft := by
  unfold State.stepsLeft
  split <;> omega

/-- A byte read is a step less. -/
theorem stepsLeft_lt_of_read {s t : State} (hlt : s.ptr.toNat < s.buflen.toNat)
    (hst : s.st ≠ .decode) (hptr : t.ptr = s.ptr + 1#8) (hbuflen : t.buflen = s.buflen) :
    t.stepsLeft < s.stepsLeft := by
  have hsucc := toNat_ptr_succ hlt
  unfold State.stepsLeft
  rw [if_neg hst, hptr, hbuflen]
  split <;> omega

/-- Every sequencer step ends the cycle or leaves fewer steps. -/
theorem Transition.nears_done {i : Instr} {s t : State} (h : Transition s i t)
    (hi : i.format = .step) : t.st = .done ∨ t.Sequencing ∧ t.stepsLeft < s.stepsLeft := by
  cases h with
  | ended => exact .inl rfl
  | decoded => exact .inl rfl
  | scanned b st' _ hst hlt _ hst' =>
    refine .inr ⟨?_, stepsLeft_lt_of_read hlt (by rcases hst with h | h <;> simp [h]) rfl rfl⟩
    rcases hst' with ⟨rfl, -⟩ | ⟨rfl, -⟩
    · exact .inr (.inl rfl)
    · exact .inl rfl
  | matched hst hlt =>
    rcases matchFound_outcome s with ⟨hdone, -⟩ | ⟨hcapt, -⟩
    · exact .inl hdone
    · exact .inr ⟨.inr (.inr (.inl hcapt)), stepsLeft_lt_of_read hlt (by simp [hst])
        (matchFound_ptr s) (matchFound_buflen s)⟩
  | captured b _ hst _ _ hlt =>
    refine .inr ⟨?_, stepsLeft_lt_of_read hlt (by simp [hst]) rfl rfl⟩
    simp only [State.Sequencing, State.captureByte_st]
    split <;> simp
  | checked hst =>
    exact .inr ⟨.inr (.inr (.inr (.inr rfl))), by simp [State.stepsLeft, hst]⟩
  | ignored hf => rcases hf with hf | hf <;> rw [hi] at hf <;> cases hf
  | answered _ hf => rcases hf with hf | hf | hf <;> rw [hi] at hf <;> cases hf
  | staged f => rw [stageOf_format] at hi; cases hi
  | _ => cases hi

/-- Where no host acts a step is a wait or a STEP operation. -/
theorem State.ownStep.next_cases {s t : State} (h : s.ownStep) (hstep : step s = .next t) :
    selectStep s = .waiting ∧ t = s.consume ∨
      ∃ i, i.format = .step ∧ Transition s.consume i t := by
  have hfetch := fetch_of_ownStep h
  rcases step_next hstep with ⟨hwait, ht⟩ | ⟨sig, i, hsig, hdec, hexec⟩
  · exact .inl ⟨hfetch ▸ hwait, ht⟩
  · exact .inr ⟨i, decode_of_selectStep (hfetch ▸ hsig) hdec, transition_of_exec hexec⟩

/-- A busy sequencer never waits (R87). -/
theorem State.Sequencing.not_waiting {s : State} (h : s.Sequencing) : selectStep s ≠ .waiting := by
  intro hwait
  rcases h with h | h | h | h | h
  · exact not_reads_of_waiting hwait (.inl h)
  · exact not_reads_of_waiting hwait (.inr (.inl h))
  · exact not_reads_of_waiting hwait (.inr (.inr h))
  · rw [selectStep_check h] at hwait; cases hwait
  · rw [selectStep_decode h] at hwait; cases hwait

/-- So the block reaches DONE within any bound on `stepsLeft`. -/
theorem State.Inv.reaches_done {n : Nat} {s : State} (hs : s.Inv) (hin : s.inputs = [])
    (hseq : s.Sequencing) (hn : s.stepsLeft ≤ n) :
    ∃ k t, k ≤ n ∧ Host.Core.run Sys2Proof.core k s = .next t ∧ t.st = .done := by
  induction n generalizing s with
  | zero => exact absurd hn (Nat.not_le.mpr s.stepsLeft_pos)
  | succ n ih =>
    obtain ⟨u, hstep⟩ := hs.ownStep_goes_on (.inl hin)
    obtain ⟨hwait, -⟩ | ⟨i, hi, htrans⟩ := State.ownStep.next_cases (.inl hin) hstep
    · exact absurd hwait hseq.not_waiting
    rw [consume_of_no_inputs hin] at htrans
    rcases htrans.nears_done hi with hdone | ⟨hseq', hlt⟩
    · exact ⟨1, u, by omega, (run_succ_next (M := Sys2Proof.core)).mpr ⟨u, hstep, rfl⟩, hdone⟩
    · obtain ⟨k, t, hk, hrun, hdone⟩ := ih (everyStepKeepsTheInvariants s u hs hstep)
        (htrans.inputs.trans hin) hseq' (by omega)
      exact ⟨k + 1, t, by omega, (run_succ_next (M := Sys2Proof.core)).mpr ⟨u, hstep, hrun⟩, hdone⟩

/-- Settles O51: from no state are more than 257 steps left. -/
theorem everyScanEnds : Obligations.EveryScanEnds :=
  fun s hs hin hseq => hs.reaches_done hin hseq s.stepsLeft_le

end Sys2Proof.Machine
end

section
/-! PROOF. The table of R200 (`43_acquisition.md`): every transition of ST with the STATUS it writes,
and who records a request (R192). -/

namespace Sys2Proof.Machine

/-! ### ST and STATUS -/

/-- A capture step before the last byte, whose own part writes neither ST nor STATUS, stays in
CAPT. -/
theorem State.capture_stays {s t : State} {lo hi : Nat} {rest : Byte → State → State}
    (h : s.capture lo hi rest = .next t) (hlo : 2 ≤ lo) (hhi : hi ≤ 86)
    (hrest : ∀ b u, (rest b u).st = u.st ∧ (rest b u).status = u.status) :
    s.st = .capt ∧ 2 ≤ s.cnt.toNat ∧ s.cnt.toNat ≤ 86 ∧ t.st = .capt ∧ t.status = s.status := by
  obtain ⟨b, hst, hclo, hchi, -, -, rfl⟩ := State.capture_next h
  obtain ⟨hsame, hstatus⟩ := hrest b { s with
    frame := s.frame.write s.cnt.toNat b, ptr := s.ptr + 1#8, cnt := s.cnt + 1#7 }
  exact ⟨hst, hlo.trans hclo, hchi.trans hhi, hsame.trans hst, hstatus⟩

/-- CAPT.CKHI alone leaves CAPT (R126). -/
theorem exec_captCkhi_next {s t : State} (h : exec .captCkhi s = .next t) :
    s.st = .capt ∧ s.cnt.toNat = 87 ∧ t.st = .check ∧ t.status = s.status := by
  obtain ⟨b, hst, hlo, hhi, -, -, rfl⟩ := State.capture_next ((execCaptCkhi_eq s).symm.trans h)
  exact ⟨hst, by omega, rfl, rfl⟩

/-- The operations that R200 does not list leave ST and STATUS as they are (log entry 6). -/
theorem unlisted_keeps_st {i : Instr} {s t : State}
    (hi : i.format = .fx ∨ i.format = .frame ∨ i.format = .pure) (h : exec i s = .next t) :
    t.st = s.st ∧ t.status = s.status := by
  rcases hi with hfx | hans
  · obtain ⟨f, rfl⟩ := eq_stageOf_of_format hfx
    rw [exec_stageOf] at h
    obtain ⟨v, -, rfl⟩ := runStage_next.mp h
    exact ⟨rfl, rfl⟩
  · obtain ⟨e, -, rfl⟩ := exec_answer_next hans h
    exact ⟨rfl, rfl⟩

/-- Settles O55: row by row, each from what its operation can do. -/
theorem transitionRelation : Obligations.TransitionRelation := by
  intro i s t h
  cases i
  case reset => obtain rfl := exec_reset_next h; exact ⟨rfl, rfl⟩
  case nop => obtain rfl := exec_nop_next h; exact ⟨rfl, rfl⟩
  case rdstat => obtain rfl := exec_rdstat_next h; exact ⟨rfl, rfl⟩
  case rdfld => obtain rfl := exec_rdfld_next h; exact ⟨rfl, rfl⟩
  case start nf =>
    rcases exec_start_next h with ⟨hbusy, rfl⟩ | ⟨hst, hnf, rfl⟩ | ⟨hst, rfl, rfl⟩
    · simp [hbusy]
    · simp [hst, hnf]
    · simp [hst]
  case deliver d =>
    obtain ⟨-, ⟨hst, rfl⟩ | ⟨hst, hd, rfl⟩ | ⟨hst, hlo, hhi, rfl⟩ | ⟨hst, hd, rfl⟩⟩ :=
      exec_deliver_next h
    · simp [hst]
    · simp [hst, hd]
    · simp [hst, hhi, List.ne_nil_of_length_pos hlo]
    · simp [hst, hd]
  case huntEnd =>
    obtain ⟨hst, hp, rfl⟩ := exec_huntEnd_next h
    exact ⟨hst, hp, rfl, rfl⟩
  case huntSkip =>
    obtain ⟨hst, -, ⟨b, hb, h7D⟩, rfl⟩ := exec_huntSkip_next h
    exact ⟨hst, by simpa [hb] using h7D, hst, rfl⟩
  case huntId =>
    obtain ⟨hst, -, hb, rfl⟩ := exec_huntId_next h
    exact ⟨hst, hb, rfl, rfl⟩
  case idEnd =>
    obtain ⟨hst, hp, rfl⟩ := exec_idEnd_next h
    exact ⟨hst, hp, rfl, rfl⟩
  case idMatch =>
    obtain ⟨hst, -, hb, rfl⟩ := exec_idMatch_next h
    refine ⟨hst, hb, ?_⟩
    rcases matchFound_cases s with ⟨hlong, hm⟩ | ⟨hfits, hm⟩
    · rw [if_pos hlong, hm]
      exact ⟨rfl, rfl⟩
    · rw [if_neg (Nat.not_lt.mpr hfits), hm]
      exact ⟨rfl, rfl⟩
  case idAgain =>
    obtain ⟨hst, -, hb, rfl⟩ := exec_idAgain_next h
    exact ⟨hst, hb, hst, rfl⟩
  case idMiss =>
    obtain ⟨hst, -, ⟨b, hb, h01, h7D⟩, rfl⟩ := exec_idMiss_next h
    exact ⟨hst, by simpa [hb] using h01, by simpa [hb] using h7D, rfl, rfl⟩
  case captLenlo =>
    exact State.capture_stays ((execCaptLenlo_eq s).symm.trans h) (by decide) (by decide)
      fun _ _ => ⟨rfl, rfl⟩
  case captLenhi =>
    exact State.capture_stays ((execCaptLenhi_eq s).symm.trans h) (by decide) (by decide)
      fun _ _ => ⟨rfl, rfl⟩
  case captBody =>
    exact State.capture_stays ((execCaptBody_eq s).symm.trans h) (by decide) (by decide)
      fun _ _ => ⟨rfl, rfl⟩
  case captCklo =>
    exact State.capture_stays ((execCaptCklo_eq s).symm.trans h) (by decide) (by decide)
      fun _ _ => ⟨rfl, rfl⟩
  case captCkhi => exact exec_captCkhi_next h
  case check =>
    obtain ⟨hst, ⟨hsum, rfl⟩ | ⟨hsum, rfl⟩⟩ := exec_check_next h
    · simp [hst, hsum]
    · simp [hst, hsum]
  case decode =>
    obtain ⟨hst, e, -, rfl⟩ := exec_decode_next h
    exact ⟨hst, rfl, rfl⟩
  all_goals exact unlisted_keeps_st (by simp [Instr.format]) h

/-! ### Requests -/

/-- Whether an event is a request to the transport (R192). -/
def Event.isRequest : Event → Bool
  | .rxRequest _ => true
  | _ => false

/-- The number of requests in a history. -/
def requestCount (h : List Event) : Nat := h.countP Event.isRequest

theorem requestCount_append_request (h : List Event) (n : Nat) :
    requestCount (h ++ [.rxRequest n]) = requestCount h + 1 :=
  List.countP_append

theorem requestCount_append_answer (h : List Event) {e : Event} (he : e.isRequest = false) :
    requestCount (h ++ [e]) = requestCount h := by
  simp [requestCount, he]

/-- The sequencer records nothing (R38). -/
theorem Transition.history_of_step {i : Instr} {s t : State} (h : Transition s i t)
    (hi : i.format = .step) : t.history = s.history := by
  cases h with
  | matched => rcases matchFound_cases s with ⟨_, hm⟩ | ⟨_, hm⟩ <;> rw [hm]
  | answered _ hf => rcases hf with hf | hf | hf <;> rw [hi] at hf <;> cases hf
  | requested => cases hi
  | _ => rfl

theorem Event.isRequest_of_ne {e : Event} (h : ∀ n, e ≠ .rxRequest n) : e.isRequest = false := by
  cases e with
  | rxRequest n => exact absurd rfl (h n)
  | _ => rfl

/-- What an operation adds to the history: nothing, an answer, or the request of an accepted
START 5. -/
theorem history_of_exec {i : Instr} {s t : State} (h : exec i s = .next t) :
    t.history = s.history ∨ (∃ e, e.isRequest = false ∧ t.history = s.history ++ [e]) ∨
      i = .start 5#8 ∧ (s.st = .idle ∨ s.st = .done) := by
  by_cases hans : i.format = .frame ∨ i.format = .pure
  · obtain ⟨e, he, rfl⟩ := exec_answer_next hans h
    exact .inr (.inl ⟨e, Event.isRequest_of_ne he, rfl⟩)
  by_cases hstep : i.format = .step
  · exact .inl ((transition_of_exec h).history_of_step hstep)
  by_cases hfx : i.format = .fx
  · obtain ⟨f, rfl⟩ := eq_stageOf_of_format hfx
    rw [exec_stageOf] at h
    obtain ⟨v, -, rfl⟩ := runStage_next.mp h
    exact .inl rfl
  cases i
  case nop => obtain rfl := exec_nop_next h; exact .inl rfl
  case rdstat => obtain rfl := exec_rdstat_next h; exact .inr (.inl ⟨_, rfl, rfl⟩)
  case rdfld => obtain rfl := exec_rdfld_next h; exact .inr (.inl ⟨_, rfl, rfl⟩)
  case start nf =>
    rcases exec_start_next h with ⟨-, rfl⟩ | ⟨-, -, rfl⟩ | ⟨hst, rfl, -⟩
    · exact .inl rfl
    · exact .inl rfl
    · exact .inr (.inr ⟨rfl, hst⟩)
  case deliver d =>
    obtain ⟨-, ⟨-, rfl⟩ | ⟨-, -, rfl⟩ | ⟨-, -, -, rfl⟩ | ⟨-, -, rfl⟩⟩ := exec_deliver_next h
    all_goals exact .inl rfl
  case reset => obtain rfl := exec_reset_next h; exact .inl rfl
  all_goals simp [Instr.format] at hans hstep hfx

/-- Settles O56: an accepted START 5 is the statement O14, and nothing else records a request. -/
theorem requestsAreOnePerAcceptedStart : Obligations.RequestsAreOnePerAcceptedStart := by
  intro i s t h
  constructor
  · rintro ⟨rfl, hst⟩
    obtain ⟨u, hexec, hu, -⟩ := startWithFormatFiveRequests s hst
    cases hexec.symm.trans h
    rw [hu]
    exact requestCount_append_request s.history 255
  · intro hnot
    rcases history_of_exec h with hsame | ⟨e, he, hadd⟩ | hacc
    · rw [hsame]
    · rw [hadd]
      exact requestCount_append_answer s.history he
    · exact absurd hacc hnot

end Sys2Proof.Machine
end

section
/-! PROOF. ACQUIRE test by test (`43_acquisition.md` rules R197, R198). -/

namespace Sys2Proof.Machine

/-! ### The value on each path of R197 -/

theorem acquireFn_of_format {nf : BitVec 8} (hnf : nf ≠ 5#8) (d : List Byte) :
    acquireFn nf d = (.unsupportedFormat, none) := if_pos hnf

section
variable {d : List Byte}

theorem acquireFn_of_empty (hd : d.length = 0) : acquireFn 5#8 d = (.portUnresponsive, none) :=
  if_pos hd

theorem acquireFn_of_short (hlo : 1 ≤ d.length) (hhi : d.length ≤ 254) :
    acquireFn 5#8 d = (.streamTruncated, none) :=
  (if_neg (Nat.ne_of_gt hlo)).trans (if_pos (Nat.lt_succ_of_le hhi))

/-! A full delivery is judged by SYNC, and a candidate frame by VALIDATE. -/

theorem acquireFn_of_frameNotFound (hd : d.length = 255) (h : syncFn d = .frameNotFound) :
    acquireFn 5#8 d = (.frameNotFound, none) := by
  simp [acquireFn, Config.reqLen, hd, h]

theorem acquireFn_of_streamTruncated (hd : d.length = 255) (h : syncFn d = .streamTruncated) :
    acquireFn 5#8 d = (.streamTruncated, none) := by
  simp [acquireFn, Config.reqLen, hd, h]

variable {i : Nat}

theorem acquireFn_of_checksumMismatch (hd : d.length = 255) (h : syncFn d = .candidateFrame i)
    (hv : validateFn (frameAt d i) = .checksumMismatch) :
    acquireFn 5#8 d = (.checksumMismatch, none) := by
  simp [acquireFn, Config.reqLen, hd, h, hv]

theorem acquireFn_of_validated (hd : d.length = 255) (h : syncFn d = .candidateFrame i)
    (hv : validateFn (frameAt d i) = .validatedFrame) :
    acquireFn 5#8 d = (.success, decodeFn (frameAt d i)) := by
  simp [acquireFn, Config.reqLen, hd, h, hv]

theorem frameAt_length (h : i + 88 ≤ d.length) : (frameAt d i).length = 88 := by
  have hrest : 88 ≤ (d.drop i).length := by
    rw [List.length_drop]
    omega
  exact List.length_take_of_le hrest

end

/-- ACQUIRE answers an ensemble exactly on Success. -/
theorem acquireFn_success_iff {d : List Byte} (hd : d.length ≤ 255) (nf : BitVec 8) :
    (acquireFn nf d).1 = .success ↔ (acquireFn nf d).2 ≠ none := by
  by_cases hnf : nf = 5#8
  swap
  · simp [acquireFn_of_format hnf]
  subst hnf
  obtain h0 | ⟨hlo, hhi⟩ | h255 :
    d.length = 0 ∨ (1 ≤ d.length ∧ d.length ≤ 254) ∨ d.length = 255 := by omega
  · simp [acquireFn_of_empty h0]
  · simp [acquireFn_of_short hlo hhi]
  cases hs : syncFn d with
  | frameNotFound => simp [acquireFn_of_frameNotFound h255 hs]
  | streamTruncated => simp [acquireFn_of_streamTruncated h255 hs]
  | candidateFrame i =>
    cases hv : validateFn (frameAt d i) with
    | checksumMismatch => simp [acquireFn_of_checksumMismatch h255 hs hv]
    | validatedFrame =>
      have hframe := frameAt_length (firstPair_of_candidateFrame hs).2
      rw [acquireFn_of_validated h255 hs hv]
      exact iff_of_true rfl (Option.isSome_iff_ne_none.mp (decodeFn_isSome hframe))

/-! ### ACQUIRE as an operation -/

theorem exec_acquire {d : List Byte} (h : d.length ≤ 255) (nf : BitVec 8) (s : State) :
    exec (.acquire nf d) s =
      .next (s.emit (.acquired (acquireFn nf d).1 (acquireFn nf d).2)) :=
  if_pos (deliveryFits_iff.mpr h)

/-- Settles O41: the value of `acquireFn` on each path; the first pair is what SYNC looks for. -/
theorem acquireTestsInOrder : Obligations.AcquireTestsInOrder := by
  intro s nf d hd
  refine ⟨_, _, exec_acquire hd nf s, acquireFn_success_iff hd nf, fun hnf => ?format, ?empty,
    ?short, ?notFound, ?frame⟩
  case format => rw [acquireFn_of_format hnf]
  case empty =>
    rintro rfl h0
    rw [acquireFn_of_empty h0]
  case short =>
    rintro rfl hlo hhi
    rw [acquireFn_of_short hlo hhi]
  case notFound =>
    rintro rfl h255 hnone
    have hsearch : firstPair d = none :=
      firstPair_eq_none_iff.mpr fun j hpair => hnone j (pairAt_iff.mp hpair)
    rw [acquireFn_of_frameNotFound h255 (syncFn_of_none hsearch)]
  case frame =>
    rintro i rfl h255 h7D h01 hfirst
    have hsearch : firstPair d = some i := firstPair_eq_some_iff.mpr
      ⟨pairAt_iff.mpr ⟨h7D, h01⟩, fun j hj hpair => hfirst j hj (pairAt_iff.mp hpair)⟩
    have hsync := syncFn_of_some hsearch
    refine ⟨fun hlong => ?_, fun hfits hv => ?_, fun hfits hv => ?_⟩
    · rw [if_pos (by omega)] at hsync
      rw [acquireFn_of_streamTruncated h255 hsync]
    · rw [if_neg (by omega)] at hsync
      rw [acquireFn_of_checksumMismatch h255 hsync hv]
    · rw [if_neg (by omega)] at hsync
      rw [acquireFn_of_validated h255 hsync hv]
      exact ⟨rfl, rfl⟩

end Sys2Proof.Machine
end

section
/-! PROOF. A whole cycle computes ACQUIRE (`43_acquisition.md` rules R197, R201): START, DELIVER, and
then the scan (SYNC), the capture (VALIDATE) and DECODE, within 257 own steps. -/

namespace Sys2Proof.Machine

/-! ### Runs -/

/-- Two runs one after the other. -/
theorem run_add_of_run {M : Host.Core} {k l : Nat} {s t u : M.State} (h : M.run k s = .next t)
    (h' : M.run l t = .next u) : M.run (k + l) s = .next u := by
  induction l generalizing t k with
  | zero => cases h'; exact h
  | succ l ih =>
    obtain ⟨v, hstep, hrest⟩ := run_succ_next.mp h'
    rw [Nat.add_comm l 1, ← Nat.add_assoc]
    exact ih (run_succ_of_run h hstep) hrest

/-- With no host acting an own step leaves the history as it is, and no host comes to act. -/
theorem step_quiet {s t : State} (hin : s.inputs = []) (h : step s = .next t) :
    t.inputs = [] ∧ t.history = s.history := by
  refine ⟨by rw [step_inputs h, hin, List.tail_nil], ?_⟩
  rcases State.ownStep.next_cases (.inl hin) h with ⟨-, rfl⟩ | ⟨i, hi, htrans⟩
  · rfl
  · exact htrans.history_of_step hi

theorem run_quiet {k : Nat} {s t : State} (hin : s.inputs = [])
    (h : Host.Core.run Sys2Proof.core k s = .next t) : t.inputs = [] ∧ t.history = s.history := by
  induction k generalizing s with
  | zero => cases h; exact ⟨hin, rfl⟩
  | succ k ih =>
    obtain ⟨u, hstep, hrest⟩ := (run_succ_next (M := Sys2Proof.core)).mp h
    obtain ⟨hin', hhist⟩ := step_quiet hin hstep
    obtain ⟨hin'', hhist'⟩ := ih hin' hrest
    exact ⟨hin'', hhist'.trans hhist⟩

/-- A block in DONE on which no host acts stays as it is. -/
theorem run_of_done {s : State} (hst : s.st = .done) (hin : s.inputs = []) (k : Nat) :
    Host.Core.run Sys2Proof.core k s = .next s := by
  induction k with
  | zero => rfl
  | succ k ih =>
    have hstep : step s = .next s.consume :=
      statesWithoutAStepOnlyWait s (.inl hin) (.inr (.inr hst))
    rw [consume_of_no_inputs hin] at hstep
    exact (run_succ_next (M := Sys2Proof.core)).mpr ⟨s, hstep, ih⟩

/-! ### The end of a cycle -/

/-- The cycle has ended with this outcome and with these ENS registers. -/
structure State.Shows (t : State) (a : OutcomeCode × Option Ensemble) : Prop where
  st : t.st = .done
  status : t.status = some a.1
  ens : ∀ f, ensGet t.ens f = a.2.bind fun e => ensGet e f

/-- With no host acting the block ends the cycle so within 257 steps. -/
def State.Ends (s : State) (a : OutcomeCode × Option Ensemble) : Prop :=
  ∃ k t, k ≤ 257 ∧ Host.Core.run Sys2Proof.core k s = .next t ∧ t.Shows a

theorem State.Shows.ends {s : State} {a : OutcomeCode × Option Ensemble} (h : s.Shows a) :
    s.Ends a := ⟨0, s, by decide, rfl, h⟩

/-- What remains of the 257 steps the block waits in DONE (R87). -/
theorem State.Ends.run {s : State} {a : OutcomeCode × Option Ensemble} (h : s.Ends a)
    (hin : s.inputs = []) : ∃ t, Host.Core.run Sys2Proof.core 257 s = .next t ∧ t.Shows a ∧
      t.history = s.history := by
  obtain ⟨k, t, hk, hrun, ht⟩ := h
  obtain ⟨hin', hhist⟩ := run_quiet hin hrun
  have hlong := run_add_of_run hrun (run_of_done ht.st hin' (257 - k))
  rw [Nat.add_sub_cancel' hk] at hlong
  exact ⟨t, hlong, ht, hhist⟩

/-- After a failure ENS is as START left it. -/
theorem shows_of_failure {t : State} {o : OutcomeCode} (hst : t.st = .done)
    (hstatus : t.status = some o) (hens : t.ens = Ensemble.unwritten) : t.Shows (o, none) :=
  ⟨hst, hstatus, fun f => hens ▸ ensGet_unwritten f⟩

theorem State.raise_shows {s : State} (hens : s.ens = Ensemble.unwritten) (o : OutcomeCode) :
    (s.raise o).Shows (o, none) := shows_of_failure rfl rfl hens

theorem extractAll_congr {frame frame' : Memory} (h : ∀ j < 88, frame'.read j = frame.read j) :
    extractAll frame' = extractAll frame :=
  extractInto_congr (extractField_congr h) allFields Ensemble.unwritten

/-- DECODE on a copy of the frame `f` ends the cycle with DECODEFN of it (R140, R144). -/
theorem step_of_decode {t : State} {f : List Byte} (hst : t.st = .decode) (hin : t.inputs = [])
    (hf : f.length = 88) (hcopy : ∀ j < 88, t.frame.read j = f[j]?) :
    ∃ u, step t = .next u ∧ u.Shows (.success, decodeFn f) := by
  have hsame : extractAll t.frame = decodeFn f :=
    extractAll_congr fun j hj => (hcopy j hj).trans (Memory.read_load f j).symm
  obtain ⟨e, he⟩ := Option.isSome_iff_exists.mp (decodeFn_isSome hf)
  have hown : t.ownStep := .inl hin
  rw [step_of_selects (hown.selects (selectStep_decode hst) rfl), consume_of_no_inputs hin,
    exec_decode_of_extract hst (hsame.trans he), he]
  exact ⟨_, rfl, rfl, rfl, fun _ => rfl⟩

/-! ### From the delivery on -/

section
variable {s : State} {d : List Byte} {i : Nat}

/-- A candidate frame sends ID.MATCH to the start of its capture (R109). -/
theorem State.ScanStart.captureStart (h : s.ScanStart d) (hsync : syncFn d = .candidateFrame i) :
    ∃ t, Host.Core.run Sys2Proof.core (i + 2) s = .next t ∧ t.CaptureStart d ∧
      t.off.toNat = i ∧ t.ens = s.ens := by
  obtain ⟨hsome, hfits⟩ := firstPair_of_candidateFrame hsync
  obtain ⟨h7D, h01⟩ := pairAt_iff.mp (firstPair_eq_some_iff.mp hsome).1
  have hlen := h.length_eq
  have hptr := h.ptr_at_match hsome
  have hpos : 1 ≤ (s.scannedTo d (i + 1)).ptr.toNat := by omega
  have hlt : (s.scannedTo d (i + 1)).ptr.toNat < s.buflen.toNat := by omega
  have hoff : ((s.scannedTo d (i + 1)).ptr - 1#8).toNat = i := by
    rw [toNat_ptr_pred hpos, hptr, Nat.add_sub_cancel]
  have hnext : ((s.scannedTo d (i + 1)).ptr + 1#8).toNat = i + 2 := by
    rw [toNat_ptr_succ hlt, hptr]
  have hrun := h.run_of_some hsome
  rw [matchFound_of_fits hpos (by rw [hptr]; exact hlen ▸ hfits)] at hrun
  refine ⟨_, hrun, ?_, hoff, rfl⟩
  exact
    { st := rfl
      cnt := rfl
      sum := rfl
      ptr := by rw [hoff, hnext]
      inputs := h.inputs
      length_eq := hlen
      fits := by rw [hoff]; exact hfits
      bytes := h.bytes
      pair_id := by rw [hoff]; exact h7D
      pair_fmt := by rw [hoff]; exact h01
      frame_id := by rw [Memory.read_write_other _ _ _ _ (by decide), Memory.read_write_same]
      frame_fmt := Memory.read_write_same _ _ _ }

/-- From there the block checks the frame and decodes it, in 88 steps at most (R127, R144). -/
theorem State.CaptureStart.ends (h : s.CaptureStart d) (hd : d.length = 255)
    (hsync : syncFn d = .candidateFrame s.off.toNat) (hens : s.ens = Ensemble.unwritten) :
    ∃ k t, k ≤ 88 ∧ Host.Core.run Sys2Proof.core k s = .next t ∧ t.Shows (acquireFn 5#8 d) := by
  obtain ⟨t, hrun, hframe, hok, hbad, hens'⟩ := captureStepsComputeValidate s d h.st h.cnt h.sum
    h.ptr h.inputs h.length_eq h.fits h.bytes h.pair_id h.pair_fmt h.frame_id h.frame_fmt
  cases hv : validateFn (frameAt d s.off.toNat) with
  | checksumMismatch =>
    obtain ⟨hst, hstatus⟩ := hbad hv
    rw [acquireFn_of_checksumMismatch hd hsync hv]
    exact ⟨87, t, by decide, hrun, shows_of_failure hst hstatus (hens'.trans hens)⟩
  | validatedFrame =>
    obtain ⟨hst, -⟩ := hok hv
    obtain ⟨u, hstep, hu⟩ := step_of_decode hst (run_quiet h.inputs hrun).1 (frameAt_length h.fits)
      fun j hj => (hframe j hj).trans (getElem?_frameAt d _ hj).symm
    rw [acquireFn_of_validated hd hsync hv]
    exact ⟨88, u, le_rfl, run_succ_of_run (M := Sys2Proof.core) hrun hstep, hu⟩

/-- The scan of a full delivery ends the cycle as ACQUIRE says (R197). -/
theorem State.ScanStart.ends (h : s.ScanStart d) (hd : d.length = 255)
    (hens : s.ens = Ensemble.unwritten) : s.Ends (acquireFn 5#8 d) := by
  have hlen := h.length_eq
  cases hsync : syncFn d with
  | frameNotFound =>
    rw [acquireFn_of_frameNotFound hd hsync]
    exact ⟨_, _, by omega, h.run_of_none (firstPair_of_frameNotFound hsync),
      State.raise_shows (s := s.scannedTo d d.length) hens _⟩
  | streamTruncated =>
    obtain ⟨i, hsome, hlong⟩ := firstPair_of_streamTruncated hsync
    have hpair := pairAt_lt (firstPair_eq_some_iff.mp hsome).1
    have hptr := h.ptr_at_match hsome
    have hrun := h.run_of_some hsome
    rw [matchFound_of_truncated (by omega) (by rw [hptr]; exact hlen ▸ hlong)] at hrun
    rw [acquireFn_of_streamTruncated hd hsync]
    exact ⟨_, _, by omega, hrun, shows_of_failure rfl rfl hens⟩
  | candidateFrame i =>
    obtain ⟨-, hfits⟩ := firstPair_of_candidateFrame hsync
    obtain ⟨t, hrun, hcap, rfl, hens'⟩ := h.captureStart hsync
    obtain ⟨k, u, hk, hrun', hu⟩ := hcap.ends hd hsync (hens'.trans hens)
    exact ⟨_, u, by omega, run_add_of_run hrun hrun', hu⟩

/-- In WAITRX a delivery starts or ends the cycle as ACQUIRE says, and records nothing (R193). -/
theorem deliver_ends (hst : s.st = .waitrx) (hens : s.ens = Ensemble.unwritten)
    (hin : s.inputs = []) (hd : d.length ≤ 255) :
    ∃ t, exec (.deliver d) s = .next t ∧ t.inputs = [] ∧ t.history = s.history ∧
      t.Ends (acquireFn 5#8 d) := by
  obtain h0 | ⟨hlo, hhi⟩ | h255 :
    d.length = 0 ∨ (1 ≤ d.length ∧ d.length ≤ 254) ∨ d.length = 255 := by omega
  · rw [acquireFn_of_empty h0]
    exact ⟨_, exec_deliver_empty hst h0, hin, rfl, (State.raise_shows hens _).ends⟩
  · rw [acquireFn_of_short hlo hhi]
    exact ⟨_, exec_deliver_short hst hlo hhi, hin, rfl, (State.raise_shows hens _).ends⟩
  · refine ⟨_, exec_deliver_full hst h255, hin, rfl, State.ScanStart.ends ?_ h255 hens⟩
    exact ⟨rfl, rfl, hin, h255, fun j _ => Memory.read_load d j⟩

end

/-! ### The whole cycle -/

/-- A pending delivery is what the next step runs. -/
theorem step_delivery {s : State} {d : List Byte} {rest : List Input} (hd : d.length ≤ 255)
    (h : s.inputs = .delivery d :: rest) : step s = exec (.deliver d) s.consume :=
  step_of_fetch (by rw [State.fetch, h]) (decode_delivery hd)

/-- START and DELIVER leave a block that ends the cycle as ACQUIRE says (R191 to R194). -/
theorem start_deliver_ends {s : State} {nf : BitVec 8} {d : List Byte}
    (hst : s.st = .idle ∨ s.st = .done) (hd : d.length ≤ 255)
    (hin : s.inputs = [.command (commandWord 0b01#2 0#6 nf), .delivery d]) :
    ∃ u v, step s = .next u ∧ step u = .next v ∧ v.inputs = [] ∧
      v.history = s.history ++ (if nf = 5#8 then [.rxRequest 255] else []) ∧
      v.Ends (acquireFn nf d) := by
  have hstart := step_start hin
  by_cases hnf : nf = 5#8
  · subst hnf
    obtain ⟨u, hexec, hu, -⟩ := startWithFormatFiveRequests s.consume hst
    have hleft : u.inputs = [.delivery d] := by rw [hu]; exact congrArg List.tail hin
    obtain ⟨v, hdeliver, hin', hhist, hends⟩ := deliver_ends (s := u.consume) (d := d)
      (by rw [hu]; rfl) (by rw [hu]; rfl) (congrArg List.tail hleft) hd
    refine ⟨u, v, hstart.trans hexec, (step_delivery hd hleft).trans hdeliver, hin', ?_, hends⟩
    rw [hhist, hu]
    rfl
  · have hexec : exec (.start nf) s.consume =
        .next ((s.consume.reinit nf).raise .unsupportedFormat) :=
      startWithOtherFormatFails s.consume nf hst hnf
    have hleft : ((s.consume.reinit nf).raise .unsupportedFormat).inputs = [.delivery d] :=
      congrArg List.tail hin
    have hignored := (step_delivery hd hleft).trans (exec_deliver_of_unrequested hd nofun)
    refine ⟨_, _, hstart.trans hexec, hignored, congrArg List.tail hleft, ?_, ?_⟩
    · rw [if_neg hnf, List.append_nil]
      rfl
    · rw [acquireFn_of_format hnf]
      exact (shows_of_failure rfl rfl rfl).ends

/-- Settles O47: two host operations, then the block ends the cycle by itself and waits in DONE. -/
theorem cycleComputesAcquire : Obligations.CycleComputesAcquire := by
  intro s nf d hst hd hin
  obtain ⟨u, v, hstart, hdeliver, hin', hhist, hends⟩ := start_deliver_ends hst hd hin
  obtain ⟨t, hrun, ht, hhist'⟩ := hends.run hin'
  have hrun' : Host.Core.run Sys2Proof.core 259 s = .next t :=
    (run_succ_next (M := Sys2Proof.core)).mpr
      ⟨u, hstart, (run_succ_next (M := Sys2Proof.core)).mpr ⟨v, hdeliver, hrun⟩⟩
  exact ⟨t, hrun', ht.st, ht.status, ht.ens, hhist'.trans hhist⟩

end Sys2Proof.Machine
end

section
/-! PROOF. The reset input (`70_reset_and_hazards.md` rule R240): from every state it answers the
values of R39. -/

namespace Sys2Proof.Machine

/-- RESET answers the reset state but for NUMFORMAT and what stands outside the block (R240, log
entry 17). -/
theorem exec_reset (s : State) :
    exec .reset s = .next { State.reset with
      numformat := Config.freeNumformat s.draws,
      inputs := s.inputs, history := s.history, draws := s.draws + 1 } := rfl

/-- Settles O11: what RESET answers shares every register of R39 with the reset state, whose values
O10 states, and takes inputs and history from the state it leaves. -/
theorem resetInputAbandonsTheCycle : Obligations.ResetInputAbandonsTheCycle := by
  intro s
  obtain ⟨hst, hbuflen, hptr, hoff, hcnt, hlen, hsum, hckrx, hstatus, hens,
    hdone, hbusy, hrxreq, hvalid⟩ := resetStateIsAsStated
  exact ⟨_, exec_reset s, hst, hbuflen, hptr, hoff, hcnt, hlen, hsum, hckrx, hstatus, hens,
    hdone, hbusy, hrxreq, hvalid, rfl, rfl⟩

end Sys2Proof.Machine
end
